-- ==== Sys2Proof/Word.lean ====
section
/-! DEFINITION. The words of the block: all of fixed width and unsigned (`00_scope.md` R11). -/

namespace Sys2Proof

/-- An 8-bit ChordMask (`30_encoding.md` R90); bit `i` is 1 when switch `i` is pressed. -/
abbrev ChordMask := BitVec 8

/-- A 4-bit Fset, the index of a decoder table (R90, R92). -/
abbrev Fset := BitVec 4

/-- The 4-bit Mods field of a ChordMask: bit 0 Thumb, 1 Caps, 2 Num, 3 Repeat (R90). -/
abbrev Mods := BitVec 4

/-- An 8-bit OutputCode (R94). -/
abbrev OutputCode := BitVec 8

/-- An 8-bit HID keycode, `0x00` for no key (R100). -/
abbrev Keycode := BitVec 8

/-- An 8-bit modifier bitmask, lane 3 of a report (R99). -/
abbrev ModByte := BitVec 8

/-- A 32-bit PackedReport of four byte lanes (R98). -/
abbrev Report := BitVec 32

end Sys2Proof
end

