-- ==== Sys2Proof/Config.lean ====
section
/-! DEFINITION. The configuration of the block (`00_scope.md` R9, R10): fixed before `rst` is released, written by no
operation (`20_memory.md` R63). Every operation of the model takes a `Config` as an argument, so that a statement may
quantify over it. The values the spec decided stand in `Machine/Keymaps.lean`; what the spec leaves OPEN is a constant
without a body here. -/

namespace Sys2Proof

/-- The ten decoder tables (`20_memory.md` R60). The identifiers `0xA..0xF` address no table and are left out of the
type (R106). -/
inductive TableId where
  | plain | caps | num | e | thumb | capsThumb | numThumb | eThumb | ctm | cmd
deriving DecidableEq, Repr

/-- What a start code does while a modifier is pending: the parameter `START_AFTER_PENDING` (R9, R180). -/
inductive StartPolicy where
  | drop
  | relatch
deriving DecidableEq, Repr

/-- One entry of `ASCII_KEYMAP` (`20_memory.md` R62): a keycode and the needs-shift flag. -/
structure AsciiKey where
  kc    : Keycode
  shift : Bool
deriving DecidableEq, Repr

/-- A field of a mask, by its highest and lowest bit. -/
structure BitField where
  hi : Nat
  lo : Nat
deriving DecidableEq, Repr

/-- The bits of a field, lowest first. -/
def BitField.bits (f : BitField) : List Nat := (List.range (f.hi + 1 - f.lo)).map (f.lo + ·)

/-- The configuration parameters of R9, every row of its table a field. The five whose value the source fixes
(`MASK_W`, `FSET_BITS`, `MODS_BITS`, `RELAY_CAP`, `REPORT_W`) have that value in every well-formed configuration (log
entry 18). -/
structure Config where
  /-- `MASK_W`: the width of a ChordMask. -/
  maskW : Nat
  /-- `FSET_BITS`: the mask bits of the finger switches. -/
  fsetBits : BitField
  /-- `MODS_BITS`: the mask bits of the modifier switches. -/
  modsBits : BitField
  /-- `RELAY_CAP`: the capacity of the relay. -/
  relayCap : Nat
  /-- `REPORT_W`: the width of a PackedReport. -/
  reportW : Nat
  /-- `MOD_BIT_THUMB`, `MOD_BIT_CAPS`, `MOD_BIT_NUM`, `MOD_BIT_REPEAT`: the mask bit of each modifier switch (R90). -/
  modBitThumb  : Nat
  modBitCaps   : Nat
  modBitNum    : Nat
  modBitRepeat : Nat
  /-- `QUEUE_CAP`: the capacity of the output queue. -/
  queueCap : Nat
  /-- The ten decoder tables: `ROM(t, i)` (R12, `20_memory.md` R60). -/
  rom : TableId → Fset → OutputCode
  /-- `CODE_CTRL_START`, `CODE_ALT_START`, `CODE_ALTCTRL_START`, `CODE_GUI_START` (R95): the start codes. -/
  codeCtrlStart    : OutputCode
  codeAltStart     : OutputCode
  codeAltctrlStart : OutputCode
  codeGuiStart     : OutputCode
  /-- `CODE_GUI_KEY` (R95): GUI as a standalone key. -/
  codeGuiKey : OutputCode
  /-- The other assigned control codes, the codes of class "control key" (R95, R191). -/
  ctrlKeys : List OutputCode
  /-- `KEYMAP_CTRL` (R62, R196). -/
  keymapCtrl : OutputCode → Keycode
  /-- `ASCII_KEYMAP` (R62, R197). -/
  asciiKeymap : OutputCode → AsciiKey
  /-- `EXT1_CODE`, `EXT1_KEY`, `EXT2_CODE`, `EXT2_KEY` (R193, R194). -/
  ext1Code : OutputCode
  ext1Key  : Keycode
  ext2Code : OutputCode
  ext2Key  : Keycode
  /-- `MODBIT_LCTRL`, `MODBIT_LSHIFT`, `MODBIT_LALT`, `MODBIT_LGUI`, `MODBIT_RALT` (R99). -/
  modLctrl  : ModByte
  modLshift : ModByte
  modLalt   : ModByte
  modLgui   : ModByte
  modRalt   : ModByte
  /-- `KC_LCTRL`, `KC_LALT`, `KC_LGUI`: the marker keycodes (R183). -/
  kcLctrl : Keycode
  kcLalt  : Keycode
  kcLgui  : Keycode
  /-- `COMPOSE_ON_NONE`: the composer runs on a chord that decodes to NONE (R125). -/
  composeOnNone : Bool
  /-- `START_AFTER_PENDING` (R180). -/
  startAfterPending : StartPolicy
  /-- `GPIO_BASE`, outside the block; no rule of the block reads it (R102). -/
  gpioBase : Nat
  /-- `SCAN_PERIOD` in milliseconds, non-binding; no rule reads it (R296). -/
  scanPeriodMs : Nat
  /-- `POP_PERIOD` in milliseconds, non-binding; no rule reads it (R296). -/
  popPeriodMs : Nat

/-- Every `CODE_*` value of a configuration: the start codes, the GUI key and the control keys (R95). -/
def assignedCodes (c : Config) : List OutputCode :=
  [c.codeCtrlStart, c.codeAltStart, c.codeAltctrlStart, c.codeGuiStart, c.codeGuiKey] ++ c.ctrlKeys

/-- A configuration is well-formed: the constraints of R10, the pinned table entry of `20_memory.md` R61, and the values
the source fixes (R9, status "source"), and the four modifier switches on the four bits of `MODS_BITS`. The 8-bit
constraints of R10 hold by type. -/
structure Config.WF (c : Config) : Prop where
  mask_w         : c.maskW = 8
  fset_bits      : c.fsetBits = ⟨3, 0⟩
  mods_bits      : c.modsBits = ⟨7, 4⟩
  relay_cap      : c.relayCap = 1
  report_w       : c.reportW = 32
  codes_in_range : ∀ k ∈ assignedCodes c, 0x01#8 ≤ k ∧ k ≤ 0x1F#8
  codes_distinct : (assignedCodes c).Nodup
  exts_in_range  : 0x80#8 ≤ c.ext1Code ∧ 0x80#8 ≤ c.ext2Code
  exts_differ    : c.ext1Code ≠ c.ext2Code
  queue_nonempty : 1 ≤ c.queueCap
  plain_a        : c.rom .plain 0xC#4 = 0x61#8
  mods_on_field  : [c.modBitThumb, c.modBitCaps, c.modBitNum, c.modBitRepeat].Perm c.modsBits.bits

/-- The OPEN contents of the decoder tables (`20_memory.md` R61, D28, I3): a value nothing constrains. Only
`T_PLAIN[0xC]` is fixed by the spec, and the machine does not take that entry from here. Log entry 7. -/
opaque Config.openEntry : TableId → Fset → OutputCode

/-- The word found where the spec leaves one unspecified after `RESET` (`70_reset_and_hazards.md` R280, I14 to I16):
a free value, drawn with the counter `freeCount` of the state. Log entry 6. -/
opaque Config.freeWord : Nat → Report

/-- `GPIO_BASE` (R9): OPEN, outside the block. Log entry 13. -/
opaque Config.openGpioBase : Nat

/-- `POP_PERIOD` (R9): OPEN, non-binding. Log entry 13. -/
opaque Config.openPopPeriod : Nat

end Sys2Proof
end

