-- ==== Sys2Proof/Machine/Operands.lean ====
section
/-! DEFINITION. Operand forms: the switch sample, the fields of a ChordMask, the table address, the lanes of a
PackedReport (`30_encoding.md` R90 to R92, R98; `40_sampler.md` R121; `20_memory.md` R60). -/

namespace Sys2Proof.Machine

open Sys2Proof

/-- The sample: the switch lines inverted to active-high (`40_sampler.md` R121), at the width `MASK_W` of a ChordMask (R9).
-/
def sample (c : Config) (swN : BitVec 8) : ChordMask := ((~~~swN).setWidth c.maskW).setWidth 8

/-- `F`, the field `FSET_BITS` of the mask: `mask[3:0]` (`41_decoder.md` R141; R9). -/
def fset (c : Config) (mask : ChordMask) : Fset :=
  (mask.extractLsb' c.fsetBits.lo (c.fsetBits.hi + 1 - c.fsetBits.lo)).setWidth 4

/-- `M`, with `M[0]` = Thumb, `M[1]` = Caps, `M[2]` = Num, `M[3]` = Repeat (R141), each from the mask bit its switch
drives (R9, `MOD_BIT_*`). With the decided placement it is `mask[7:4]`. -/
def mods (c : Config) (mask : ChordMask) : Mods :=
  BitVec.ofBool (mask.getLsbD c.modBitRepeat) ++ BitVec.ofBool (mask.getLsbD c.modBitNum) ++
    BitVec.ofBool (mask.getLsbD c.modBitCaps) ++ BitVec.ofBool (mask.getLsbD c.modBitThumb)

/-- The mask bit of one modifier switch, set when the switch is pressed. -/
def modBit (pressed : Bool) (bit : Nat) : ChordMask := if pressed then 1#8 <<< bit else 0#8

/-- The ChordMask with Mods `m` and Fset `f`: the inverse of the field split (R90). -/
def chordOf (c : Config) (m : Mods) (f : Fset) : ChordMask :=
  f.setWidth 8 <<< c.fsetBits.lo ||| modBit (m.getLsbD 0) c.modBitThumb ||| modBit (m.getLsbD 1) c.modBitCaps |||
    modBit (m.getLsbD 2) c.modBitNum ||| modBit (m.getLsbD 3) c.modBitRepeat

/-- The whole-mask values of `30_encoding.md` R91: `CAPS_ALONE` is `0x20` with the decided placement. -/
def capsAlone (c : Config) : ChordMask := chordOf c 0b0010#4 0#4

/-- `THUMB_NUM_ALONE`, `0x50` (R91). -/
def thumbNumAlone (c : Config) : ChordMask := chordOf c 0b0101#4 0#4

/-- `THUMB_CAPS_ALONE`, `0x30` (R91). -/
def thumbCapsAlone (c : Config) : ChordMask := chordOf c 0b0011#4 0#4

/-- `NUM_CAPS_ALONE`, `0x60` (R91). -/
def numCapsAlone (c : Config) : ChordMask := chordOf c 0b0110#4 0#4

/-- The nine branch conditions of the case table (`41_decoder.md` R142) in the order of its rows; `DEC_NOP` takes every
mask that meets none of them (R156). -/
def branchTests (c : Config) : List (ChordMask → Bool) :=
  [fun mask => mods c mask == 0b0000#4 && fset c mask != 0#4,
   fun mask => mods c mask == 0b0001#4,
   fun mask => mods c mask == 0b0100#4 && fset c mask != 0#4,
   fun mask => mask == capsAlone c,
   fun mask => mods c mask == 0b0010#4 && fset c mask != 0#4,
   fun mask => mask == thumbNumAlone c,
   fun mask => mask == thumbCapsAlone c,
   fun mask => mask == numCapsAlone c,
   fun mask => mods c mask == 0b0110#4 && fset c mask != 0#4]

/-- The code is printable ASCII, `0x20..0x7E` (`30_encoding.md` R94). -/
def isPrintable (code : OutputCode) : Bool := decide (0x20#8 ≤ code) && decide (code ≤ 0x7E#8)

/-- The 4-bit identifier of a decoder table (`20_memory.md` R60). -/
def tableTid : TableId → BitVec 4
  | .plain => 0x0#4
  | .caps => 0x1#4
  | .num => 0x2#4
  | .e => 0x3#4
  | .thumb => 0x4#4
  | .capsThumb => 0x5#4
  | .numThumb => 0x6#4
  | .eThumb => 0x7#4
  | .ctm => 0x8#4
  | .cmd => 0x9#4

/-- The table an identifier names; `0xA..0xF` address no table (R60). -/
def tableOfTid (tid : BitVec 4) : Option TableId :=
  [TableId.plain, .caps, .num, .e, .thumb, .capsThumb, .numThumb, .eThumb, .ctm, .cmd].find? (fun t => tableTid t == tid)

/-- The decoder table space at the 8-bit address `{tid[3:0], F[3:0]}` (R60). -/
def romAt (c : Config) (addr : BitVec 8) : Option OutputCode :=
  (tableOfTid (addr.extractLsb' 4 4)).map fun t => c.rom t (addr.extractLsb' 0 4)

/-- Lane `k` of a report occupies bits `[8k+7:8k]` (`30_encoding.md` R98). -/
def lane (w : Report) (k : Nat) : BitVec 8 := w.extractLsb' (8 * k) 8

/-- `pack(k0, k1, k2, m) = {m, k2, k1, k0}` (R98). -/
def pack (k0 k1 k2 : Keycode) (m : ModByte) : Report := m ++ k2 ++ k1 ++ k0

/-- A report at the width `REPORT_W` (R9): the word itself at 32. -/
def atReportWidth (c : Config) (w : Report) : Report := (w.setWidth c.reportW).setWidth 32

/-- The operand bytes of a report, lane 0 first (`20_memory.md` R69). -/
def reportBytes (w : Report) : List (BitVec 8) := [lane w 0, lane w 1, lane w 2, lane w 3]

end Sys2Proof.Machine
end

