-- ==== Sys2Proof/Machine/Keymaps.lean ====
section
/-! DEFINITION. The decided values of the configuration parameters (`00_scope.md` R9): the default code numbering
(`30_encoding.md` R95), the modifier bits (R99), the marker keycodes (R183), the keycode maps (`42_composer.md` R196, R197)
and `blockConfig`, the configuration the machine runs at. -/

namespace Sys2Proof.Machine

open Sys2Proof

/-- The assigned control-key codes, in the order of R95, each with its HID keycode of R196: Insert, Delete, Backspace,
Tab, Up, Down, Enter, Left, Right, Page Up, Page Down. -/
def ctrlKeyRows1 : List (OutputCode × Keycode) :=
  [(0x06#8, 0x49#8), (0x07#8, 0x4C#8), (0x08#8, 0x2A#8), (0x09#8, 0x2B#8), (0x0B#8, 0x52#8), (0x0C#8, 0x51#8),
   (0x0D#8, 0x28#8), (0x0E#8, 0x50#8), (0x0F#8, 0x4F#8), (0x10#8, 0x4B#8), (0x11#8, 0x4E#8)]

/-- F1 to F9, Escape, F10, F11, F12 (R95, R196). -/
def ctrlKeyRows2 : List (OutputCode × Keycode) :=
  [(0x12#8, 0x3A#8), (0x13#8, 0x3B#8), (0x14#8, 0x3C#8), (0x15#8, 0x3D#8), (0x16#8, 0x3E#8), (0x17#8, 0x3F#8),
   (0x18#8, 0x40#8), (0x19#8, 0x41#8), (0x1A#8, 0x42#8), (0x1B#8, 0x29#8), (0x1C#8, 0x43#8), (0x1D#8, 0x44#8),
   (0x1E#8, 0x45#8)]

/-- The control keys of R191 with their keycodes. -/
def ctrlKeyRows : List (OutputCode × Keycode) := ctrlKeyRows1 ++ ctrlKeyRows2

/-- The rows of `KEYMAP_CTRL` (R196): the marker keycodes of the start codes, the GUI key, the control keys.
`CODE_ALTCTRL_START` has no keycode of its own. -/
def keymapCtrlRows : List (OutputCode × Keycode) :=
  [(0x01#8, 0xE0#8), (0x02#8, 0xE2#8), (0x04#8, 0xE3#8), (0x05#8, 0xE3#8)] ++ ctrlKeyRows

/-- `KEYMAP_CTRL` by default (R196); a code with no row gives no key (`0x00`). -/
def keymapCtrlDefault (code : OutputCode) : Keycode := (keymapCtrlRows.lookup code).getD 0x00#8

/-- `ASCII_KEYMAP` of R197, codes `0x20` (space) to `0x3F` (`?`), in order. -/
def asciiRows20 : List AsciiKey :=
  [⟨0x2C#8, false⟩, ⟨0x1E#8, true⟩, ⟨0x34#8, true⟩, ⟨0x20#8, true⟩, ⟨0x21#8, true⟩,
   ⟨0x22#8, true⟩, ⟨0x24#8, true⟩, ⟨0x34#8, false⟩, ⟨0x26#8, true⟩, ⟨0x27#8, true⟩,
   ⟨0x25#8, true⟩, ⟨0x2E#8, true⟩, ⟨0x36#8, false⟩, ⟨0x2D#8, false⟩, ⟨0x37#8, false⟩,
   ⟨0x38#8, false⟩, ⟨0x27#8, false⟩, ⟨0x1E#8, false⟩, ⟨0x1F#8, false⟩, ⟨0x20#8, false⟩,
   ⟨0x21#8, false⟩, ⟨0x22#8, false⟩, ⟨0x23#8, false⟩, ⟨0x24#8, false⟩, ⟨0x25#8, false⟩,
   ⟨0x26#8, false⟩, ⟨0x33#8, true⟩, ⟨0x33#8, false⟩, ⟨0x36#8, true⟩, ⟨0x2E#8, false⟩,
   ⟨0x37#8, true⟩, ⟨0x38#8, true⟩]

/-- `ASCII_KEYMAP` of R197, codes `0x40` (`@`) to `0x5F` (`_`), in order. -/
def asciiRows40 : List AsciiKey :=
  [⟨0x1F#8, true⟩, ⟨0x04#8, true⟩, ⟨0x05#8, true⟩, ⟨0x06#8, true⟩, ⟨0x07#8, true⟩,
   ⟨0x08#8, true⟩, ⟨0x09#8, true⟩, ⟨0x0A#8, true⟩, ⟨0x0B#8, true⟩, ⟨0x0C#8, true⟩,
   ⟨0x0D#8, true⟩, ⟨0x0E#8, true⟩, ⟨0x0F#8, true⟩, ⟨0x10#8, true⟩, ⟨0x11#8, true⟩,
   ⟨0x12#8, true⟩, ⟨0x13#8, true⟩, ⟨0x14#8, true⟩, ⟨0x15#8, true⟩, ⟨0x16#8, true⟩,
   ⟨0x17#8, true⟩, ⟨0x18#8, true⟩, ⟨0x19#8, true⟩, ⟨0x1A#8, true⟩, ⟨0x1B#8, true⟩,
   ⟨0x1C#8, true⟩, ⟨0x1D#8, true⟩, ⟨0x2F#8, false⟩, ⟨0x31#8, false⟩, ⟨0x30#8, false⟩,
   ⟨0x23#8, true⟩, ⟨0x2D#8, true⟩]

/-- `ASCII_KEYMAP` of R197, codes `0x60` (backtick) to `0x7E` (tilde), in order. -/
def asciiRows60 : List AsciiKey :=
  [⟨0x35#8, false⟩, ⟨0x04#8, false⟩, ⟨0x05#8, false⟩, ⟨0x06#8, false⟩, ⟨0x07#8, false⟩,
   ⟨0x08#8, false⟩, ⟨0x09#8, false⟩, ⟨0x0A#8, false⟩, ⟨0x0B#8, false⟩, ⟨0x0C#8, false⟩,
   ⟨0x0D#8, false⟩, ⟨0x0E#8, false⟩, ⟨0x0F#8, false⟩, ⟨0x10#8, false⟩, ⟨0x11#8, false⟩,
   ⟨0x12#8, false⟩, ⟨0x13#8, false⟩, ⟨0x14#8, false⟩, ⟨0x15#8, false⟩, ⟨0x16#8, false⟩,
   ⟨0x17#8, false⟩, ⟨0x18#8, false⟩, ⟨0x19#8, false⟩, ⟨0x1A#8, false⟩, ⟨0x1B#8, false⟩,
   ⟨0x1C#8, false⟩, ⟨0x1D#8, false⟩, ⟨0x2F#8, true⟩, ⟨0x31#8, true⟩, ⟨0x30#8, true⟩,
   ⟨0x35#8, true⟩]

/-- All 95 rows of `ASCII_KEYMAP` (R197). -/
def asciiRows : List AsciiKey := asciiRows20 ++ asciiRows40 ++ asciiRows60

/-- `ASCII_KEYMAP` by default (R197), indexed by a printable code `0x20..0x7E`; no other code is looked up (R181), and
it would give no key. -/
def asciiKeymapDefault (code : OutputCode) : AsciiKey :=
  if 0x20#8 ≤ code ∧ code ≤ 0x7E#8 then asciiRows.getD (code.toNat - 0x20) ⟨0x00#8, false⟩ else ⟨0x00#8, false⟩

/-- The decoder tables: `T_PLAIN[0xC]` is `0x61` (`20_memory.md` R61) and every other entry is OPEN. -/
def romDefault (t : TableId) (i : Fset) : OutputCode :=
  if t = .plain ∧ i = 0xC#4 then 0x61#8 else Config.openEntry t i

/-- The configuration of the machine: every parameter of R9 that the source fixes at that value (log entry 18), every decided
one at its decided value (log entries 8, 9, 12, 14 and 17), every OPEN one unconstrained (log entries 7 and 13). -/
def blockConfig : Config where
  maskW := 8
  fsetBits := ⟨3, 0⟩
  modsBits := ⟨7, 4⟩
  relayCap := 1
  reportW := 32
  modBitThumb := 4
  modBitCaps := 5
  modBitNum := 6
  modBitRepeat := 7
  queueCap := 8
  rom := romDefault
  codeCtrlStart := 0x01#8
  codeAltStart := 0x02#8
  codeAltctrlStart := 0x03#8
  codeGuiStart := 0x04#8
  codeGuiKey := 0x05#8
  ctrlKeys := ctrlKeyRows.map Prod.fst
  keymapCtrl := keymapCtrlDefault
  asciiKeymap := asciiKeymapDefault
  ext1Code := 0x80#8
  ext1Key := 0x21#8
  ext2Code := 0x81#8
  ext2Key := 0x20#8
  modLctrl := 0x01#8
  modLshift := 0x02#8
  modLalt := 0x04#8
  modLgui := 0x08#8
  modRalt := 0x40#8
  kcLctrl := 0xE0#8
  kcLalt := 0xE2#8
  kcLgui := 0xE3#8
  composeOnNone := true
  startAfterPending := .drop
  gpioBase := Config.openGpioBase
  scanPeriodMs := 20
  popPeriodMs := Config.openPopPeriod

end Sys2Proof.Machine
end

