-- ==== Sys2Proof/Syntax.lean ====
section
/-! DEFINITION. The operations of the block, one constructor per row of `opcode_table.json` (`00_scope.md` R2,
`30_encoding.md` R105), and the encoded line an operation is read from. -/

namespace Sys2Proof

/-- The operations. An operand is what the row's encoding carries: the switch lines, the Fset, the mask of a no-op
chord, the OutputCode of a class that has more than one, the pushed word. -/
inductive Instr where
  /-- `SCAN_TICK` with the switch lines `sw_n` at the tick (R120). -/
  | scanTick (swN : BitVec 8)
  /-- `DEC_CHAR` (R147). -/
  | decChar (f : Fset)
  /-- `DEC_THUMB` (R148). -/
  | decThumb (f : Fset)
  /-- `DEC_NUM` (R149). -/
  | decNum (f : Fset)
  /-- `DEC_CAPS_TOGGLE` (R150). -/
  | decCapsToggle
  /-- `DEC_COMMAND` (R151). -/
  | decCommand (f : Fset)
  /-- `DEC_NUMLOCK_TOGGLE` (R152). -/
  | decNumlockToggle
  /-- `DEC_PANIC_CLEAR` (R153). -/
  | decPanicClear
  /-- `DEC_ESHIFT_SET` (R154). -/
  | decEshiftSet
  /-- `DEC_COUNTERMAND` (R155). -/
  | decCountermand (f : Fset)
  /-- `DEC_NOP` with the mask no earlier branch takes (R156). -/
  | decNop (mask : ChordMask)
  /-- `COMP_NONE` (R185). -/
  | compNone
  /-- `COMP_CTRL_START` (R186). -/
  | compCtrlStart
  /-- `COMP_ALT_START` (R187). -/
  | compAltStart
  /-- `COMP_ALTCTRL_START` (R188). -/
  | compAltctrlStart
  /-- `COMP_GUI_START` (R189). -/
  | compGuiStart
  /-- `COMP_GUI_KEY` (R190). -/
  | compGuiKey
  /-- `COMP_CTRLKEY` with its control code (R191). -/
  | compCtrlkey (code : OutputCode)
  /-- `COMP_PRINTABLE` with its code (R192). -/
  | compPrintable (code : OutputCode)
  /-- `COMP_EXT1` (R193). -/
  | compExt1
  /-- `COMP_EXT2` (R194). -/
  | compExt2
  /-- `COMP_UNMAPPED` with its code (R195). -/
  | compUnmapped (code : OutputCode)
  /-- `PUSH` of the report `w` (R220, R221). -/
  | push (w : Report)
  /-- `RETRY_PUSH` (R222). -/
  | retryPush
  /-- `DRAIN` (R223). -/
  | drain
  /-- `POP` (R226). -/
  | pop
  /-- `RESET` (`70_reset_and_hazards.md` R280). -/
  | reset
deriving DecidableEq, Repr

/-- The format of an encoded line. The five agent steps of `60_exceptions.md` R253 are selected by their event or
condition; the table's formats `chordmask8` and `outputcode8` and the internal `PUSH` present an operation at the
interface of the sub-block that owns it (log entry 4). -/
inductive LineFormat where
  /-- The `scan_tick` event, with `sw_n`: `S.tick` of R14. -/
  | scanTick
  /-- The Scanner's internal step: `S.retry`. -/
  | retry
  /-- The Reporter's internal step: `R.drain`. -/
  | drain
  /-- The `pop_req` event: `R.pop`. -/
  | popReq
  /-- The `rst` event: `reset`. -/
  | rst
  /-- A ChordMask presented to the Decoder. -/
  | chordMask
  /-- An OutputCode presented to the Composer. -/
  | outputCode
  /-- A report presented to the relay's push end. -/
  | push
deriving DecidableEq, Repr

/-- An encoded line: its format and its operand bytes, the least significant byte first (R69). -/
structure Line where
  format : LineFormat
  bytes  : List (BitVec 8)
deriving DecidableEq, Repr

/-- The line is one of the five agent steps of `60_exceptions.md` R253: the only lines that occur in a run of the block
itself. -/
def Line.isAgentStep (l : Line) : Bool :=
  match l.format with
  | .scanTick | .retry | .drain | .popReq | .rst => true
  | .chordMask | .outputCode | .push => false

end Sys2Proof
end

