-- ==== Sys2Proof/WellFormed.lean ====
section
/-! DEFINITION. Which operations are well-formed: the operand conditions the encodings put on them
(`41_decoder.md` R142 to R156, `42_composer.md` R185 to R195, `43_relay_queue.md` R220). -/

namespace Sys2Proof

open Sys2Proof.Machine

/-- No named branch takes the mask (R156). -/
def isNopMask (c : Config) (mask : ChordMask) : Bool := (branchTests c).all fun test => !test mask

/-- No row of R185 to R194 takes the code (R195). -/
def isUnmapped (c : Config) (code : OutputCode) : Bool :=
  code != 0x00#8 && !(assignedCodes c).contains code && !isPrintable code && code != c.ext1Code && code != c.ext2Code

/-- The operation's operands are ones its encoding admits. -/
def wellFormed (c : Config) : Instr → Bool
  | .scanTick _ => true
  | .decChar f => f != 0#4
  | .decThumb _ => true
  | .decNum f => f != 0#4
  | .decCapsToggle => true
  | .decCommand f => f != 0#4
  | .decNumlockToggle => true
  | .decPanicClear => true
  | .decEshiftSet => true
  | .decCountermand f => f != 0#4
  | .decNop mask => isNopMask c mask
  | .compNone => true
  | .compCtrlStart => true
  | .compAltStart => true
  | .compAltctrlStart => true
  | .compGuiStart => true
  | .compGuiKey => true
  | .compCtrlkey code => c.ctrlKeys.contains code
  | .compPrintable code => isPrintable code
  | .compExt1 => true
  | .compExt2 => true
  | .compUnmapped code => isUnmapped c code
  | .push w => lane w 0 != 0x00#8
  | .retryPush => true
  | .drain => true
  | .pop => true
  | .reset => true

end Sys2Proof
end

