-- ==== Sys2Proof/Decode.lean ====
section
/-! DEFINITION. Reading an operation from an encoded line, and writing one (`30_encoding.md` R90 to R95, R105, R106;
`00_scope.md` R14). Total on any bytes; what is no encoding is rejected by name. -/

namespace Sys2Proof

open Sys2Proof.Machine

/-- Why a line is no encoding of an operation. -/
inductive DecodeError where
  /-- The format takes another number of operand bytes. -/
  | wrongByteCount (format : LineFormat) (count : Nat)
  /-- A report offered to the relay has lane 0 zero, which R220 excludes. -/
  | pushWithoutKey (w : Report)
deriving DecidableEq, Repr

/-- The decoder branch a ChordMask selects: the case table of `41_decoder.md` R142, first match wins. -/
def chordInstr (c : Config) (mask : ChordMask) : Instr :=
  if mods c mask = 0b0000#4 ∧ fset c mask ≠ 0#4 then .decChar (fset c mask)
  else if mods c mask = 0b0001#4 then .decThumb (fset c mask)
  else if mods c mask = 0b0100#4 ∧ fset c mask ≠ 0#4 then .decNum (fset c mask)
  else if mask = capsAlone c then .decCapsToggle
  else if mods c mask = 0b0010#4 ∧ fset c mask ≠ 0#4 then .decCommand (fset c mask)
  else if mask = thumbNumAlone c then .decNumlockToggle
  else if mask = thumbCapsAlone c then .decPanicClear
  else if mask = numCapsAlone c then .decEshiftSet
  else if mods c mask = 0b0110#4 ∧ fset c mask ≠ 0#4 then .decCountermand (fset c mask)
  else .decNop mask

/-- The composer class an OutputCode selects: the rows of `42_composer.md` R181, R185 to R195. -/
def codeInstr (c : Config) (code : OutputCode) : Instr :=
  if code = 0x00#8 then .compNone
  else if code = c.codeCtrlStart then .compCtrlStart
  else if code = c.codeAltStart then .compAltStart
  else if code = c.codeAltctrlStart then .compAltctrlStart
  else if code = c.codeGuiStart then .compGuiStart
  else if code = c.codeGuiKey then .compGuiKey
  else if c.ctrlKeys.contains code then .compCtrlkey code
  else if isPrintable code then .compPrintable code
  else if code = c.ext1Code then .compExt1
  else if code = c.ext2Code then .compExt2
  else .compUnmapped code

/-- The report whose operand bytes are these, lane 0 first (`20_memory.md` R69). -/
def reportOfBytes (b0 b1 b2 b3 : BitVec 8) : Report := b3 ++ b2 ++ b1 ++ b0

/-- The push of a report, which must carry a key in lane 0 (`43_relay_queue.md` R220). -/
def pushInstr (w : Report) : Except DecodeError Instr :=
  if lane w 0 = 0x00#8 then .error (.pushWithoutKey w) else .ok (.push w)

/-- The operation an encoded line stands for. -/
def decodeLine (c : Config) (l : Line) : Except DecodeError Instr :=
  match l.format, l.bytes with
  | .scanTick, [swN] => .ok (.scanTick swN)
  | .retry, [] => .ok .retryPush
  | .drain, [] => .ok .drain
  | .popReq, [] => .ok .pop
  | .rst, [] => .ok .reset
  | .chordMask, [mask] => .ok (chordInstr c mask)
  | .outputCode, [code] => .ok (codeInstr c code)
  | .push, [b0, b1, b2, b3] => pushInstr (reportOfBytes b0 b1 b2 b3)
  | format, bytes => .error (.wrongByteCount format bytes.length)

/-- How many operand bytes a format takes: one for the switch lines, a ChordMask or an OutputCode, four for a report
(R90, R94, R98, R101). -/
def formatBytes : LineFormat → Nat
  | .scanTick => 1
  | .retry => 0
  | .drain => 0
  | .popReq => 0
  | .rst => 0
  | .chordMask => 1
  | .outputCode => 1
  | .push => 4

/-- The line with one operand byte, a ChordMask. -/
def chordLine (mask : ChordMask) : Line := ⟨.chordMask, [mask]⟩

/-- The line with one operand byte, an OutputCode. -/
def codeLine (code : OutputCode) : Line := ⟨.outputCode, [code]⟩

/-- The encoded line of an operation: the encodings of R91, R95 and R142. -/
def encodeLine (c : Config) : Instr → Line
  | .scanTick swN => ⟨.scanTick, [swN]⟩
  | .decChar f => chordLine (chordOf c 0b0000#4 f)
  | .decThumb f => chordLine (chordOf c 0b0001#4 f)
  | .decNum f => chordLine (chordOf c 0b0100#4 f)
  | .decCapsToggle => chordLine (capsAlone c)
  | .decCommand f => chordLine (chordOf c 0b0010#4 f)
  | .decNumlockToggle => chordLine (thumbNumAlone c)
  | .decPanicClear => chordLine (thumbCapsAlone c)
  | .decEshiftSet => chordLine (numCapsAlone c)
  | .decCountermand f => chordLine (chordOf c 0b0110#4 f)
  | .decNop mask => chordLine mask
  | .compNone => codeLine 0x00#8
  | .compCtrlStart => codeLine c.codeCtrlStart
  | .compAltStart => codeLine c.codeAltStart
  | .compAltctrlStart => codeLine c.codeAltctrlStart
  | .compGuiStart => codeLine c.codeGuiStart
  | .compGuiKey => codeLine c.codeGuiKey
  | .compCtrlkey code => codeLine code
  | .compPrintable code => codeLine code
  | .compExt1 => codeLine c.ext1Code
  | .compExt2 => codeLine c.ext2Code
  | .compUnmapped code => codeLine code
  | .push w => ⟨.push, reportBytes w⟩
  | .retryPush => ⟨.retry, []⟩
  | .drain => ⟨.drain, []⟩
  | .pop => ⟨.popReq, []⟩
  | .reset => ⟨.rst, []⟩

/-- The OutputCodes to which the opcode table gives a row of its own with every bit fixed (mask `0xFF`). -/
def exactCodes (c : Config) : List OutputCode :=
  [0x00#8, c.codeCtrlStart, c.codeAltStart, c.codeAltctrlStart, c.codeGuiStart, c.codeGuiKey, c.ext1Code, c.ext2Code]

/-- The line a word of the opcode table stands for. A word carries no format, and a byte may be both a ChordMask and an
OutputCode: a code with a row of its own (every bit fixed) is read as that row, any other byte as a ChordMask. A word
of two bytes is a ChordMask, whose eight bits are the low byte (every ChordMask is 8 bits, R106); a word of four bytes is
`relay_data`, the operand the table gives `DRAIN`. Log entry 10. -/
def tableLine (c : Config) (nbits w : Nat) : Option Line :=
  if nbits = 8 then
    some (if (exactCodes c).contains (BitVec.ofNat 8 w) then codeLine (BitVec.ofNat 8 w) else chordLine (BitVec.ofNat 8 w))
  else if nbits = 16 then some (chordLine (BitVec.ofNat 8 w))
  else if nbits = 32 then some ⟨.drain, []⟩
  else none

/-- The operation read from a word of the opcode table. -/
def decodeTableWord (nbits w : Nat) : Option Instr :=
  match tableLine blockConfig nbits w with
  | none => none
  | some l => (decodeLine blockConfig l).toOption

end Sys2Proof
end

