-- ==== Sys2Proof/Machine/State.lean ====
section
/-! DEFINITION. The state of the block (`10_state.md` R30), its reset value (`70_reset_and_hazards.md` R280), and the
reasons a step can stop. -/

namespace Sys2Proof.Machine

open Sys2Proof

/-- The value of the Caps or NumLock flag (`10_state.md` R35, R36). -/
inductive ShiftFlag where
  | off | transient | locked
deriving DecidableEq, Repr

/-- The value of the EShift flag, which has no locked form (R37). -/
inductive EShift where
  | off | transient
deriving DecidableEq, Repr

/-- The ShiftState: 3 x 3 x 2 = 18 combinations (R37; `90_conflicts.md` C1). -/
structure ShiftState where
  caps : ShiftFlag
  num  : ShiftFlag
  esh  : EShift
deriving DecidableEq, Repr

/-- The PendingModifier (R40). -/
inductive Pending where
  | none | ctrl | alt | altctrl | gui
deriving DecidableEq, Repr

/-- The Scanner phase (R38). -/
inductive ScanPhase where
  | idle | stalled
deriving DecidableEq, Repr

/-- The state: the fourteen elements of R30 (the ShiftState is three of them), then two fields of the model's own. -/
structure State where
  /-- The chord accumulator (R34). -/
  acc       : BitVec 8
  /-- The three shift flags (R35 to R37). -/
  shift     : ShiftState
  /-- The sticky shift-event record, also the output port `shift_evt` (R39, R104). -/
  shiftEvt  : Bool
  /-- The pending modifier (R40). -/
  pending   : Pending
  /-- The Scanner phase (R38). -/
  sphase    : ScanPhase
  /-- The report a stalled Scanner is trying to push (R38). -/
  hold      : BitVec 32
  /-- The relay slot is occupied (R41). -/
  relayFull : Bool
  /-- The word in the relay (R41). -/
  relayData : BitVec 32
  /-- The storage of the output queue, `QUEUE_CAP` words (R42). -/
  qMem      : List (BitVec 32)
  /-- The read index of the queue (R42). -/
  qHead     : Nat
  /-- The occupancy count of the queue (R42). -/
  qCount    : Nat
  /-- The word returned by the most recent pop, also the output port `pop_data` (R43). -/
  popData   : BitVec 32
  /-- The model's own: the lines still to be served, the Host's events and the interleaving as plain data (log entry 1). -/
  script    : List Line
  /-- The model's own: how many free values have been drawn (log entry 6). -/
  freeCount : Nat
deriving DecidableEq, Repr

/-- No operation of the block faults: "The block has no exceptions, no error outputs, no fault state and no cause codes"
(`60_exceptions.md` R250). The type has no constructor. -/
inductive Fault where
deriving DecidableEq, Repr

/-- Why a step gives no meaning. -/
inductive Refusal where
  /-- Raised by `exec` for an operation the model gives no meaning; safe. No operation is left so. -/
  | notModelled (mnemonic : String)
  /-- Raised by `step` for a script line that is no encoding of an operation; safe: no event of the block is such a line. -/
  | undecodable (error : DecodeError)
deriving DecidableEq, Repr

/-- All shift flags `Off`. -/
def ShiftState.allOff : ShiftState := ⟨.off, .off, .off⟩

/-- The state right after reset (R280) under a configuration, which gives the number of queue slots. `hold`, `relay_data` and `q_mem` are unspecified there; they are named zero (log
entry 5). The script is empty: no event has arrived (log entry 11). -/
def State.resetAt (c : Config) : State where
  acc := 0x00#8
  shift := ShiftState.allOff
  shiftEvt := false
  pending := .none
  sphase := .idle
  hold := 0x00000000#32
  relayFull := false
  relayData := 0x00000000#32
  qMem := List.replicate c.queueCap 0x00000000#32
  qHead := 0
  qCount := 0
  popData := 0x00000000#32
  script := []
  freeCount := 0

/-- The state right after reset of the machine (R280). -/
def State.reset : State := State.resetAt blockConfig

end Sys2Proof.Machine
end

