-- ==== Sys2Proof/Machine/Flags.lean ====
section
/-! DEFINITION. The flag computations: `toggle` and `consume` (`41_decoder.md` R144, R157), and the bit encodings of the
ShiftState and the PendingModifier (`30_encoding.md` R96, R97). -/

namespace Sys2Proof.Machine

open Sys2Proof

/-- `toggle` of a tri-valued flag (R157). -/
def toggle : ShiftFlag → ShiftFlag
  | .off => .transient
  | .transient => .locked
  | .locked => .off

/-- `consume` of a tri-valued flag (R144); it is not applied to `Off`, and leaves it. -/
def consume : ShiftFlag → ShiftFlag
  | .transient => .off
  | .locked => .locked
  | .off => .off

/-- The two bits of a tri-valued flag (R96). -/
def flagBits : ShiftFlag → BitVec 2
  | .off => 0b00#2
  | .transient => 0b01#2
  | .locked => 0b10#2

/-- The tri-valued flag two bits stand for; `0b11` is never written (R96). -/
def flagOfBits (b : BitVec 2) : Option ShiftFlag :=
  if b = 0b00#2 then some .off else if b = 0b01#2 then some .transient else if b = 0b10#2 then some .locked else none

/-- The bit of the EShift flag (R96). -/
def eshiftBit : EShift → BitVec 1
  | .off => 0#1
  | .transient => 1#1

/-- The EShift flag a bit stands for. -/
def eshiftOfBit (b : BitVec 1) : EShift := if b = 0#1 then .off else .transient

/-- The ShiftState word `{caps[1:0], num[1:0], esh}` (R96). -/
def shiftBits (s : ShiftState) : BitVec 5 := flagBits s.caps ++ flagBits s.num ++ eshiftBit s.esh

/-- The ShiftState a 5-bit word stands for, where its two flag codes are ones that are written. -/
def shiftOfBits (b : BitVec 5) : Option ShiftState :=
  match flagOfBits (b.extractLsb' 3 2), flagOfBits (b.extractLsb' 1 2) with
  | some caps, some num => some ⟨caps, num, eshiftOfBit (b.extractLsb' 0 1)⟩
  | _, _ => none

/-- The three bits of the PendingModifier (R97). -/
def pendingBits : Pending → BitVec 3
  | .none => 0b000#3
  | .ctrl => 0b001#3
  | .alt => 0b010#3
  | .altctrl => 0b011#3
  | .gui => 0b100#3

/-- The PendingModifier three bits stand for; `0b101..0b111` are never written (R97). -/
def pendingOfBits (b : BitVec 3) : Option Pending :=
  [Pending.none, .ctrl, .alt, .altctrl, .gui].find? fun p => pendingBits p == b

end Sys2Proof.Machine
end

