-- ==== Sys2Proof/Machine/Ops.lean ====
section
/-! DEFINITION. The named operations over the registers, the relay and the queue, and the reset of the whole block
(`43_relay_queue.md` R220 to R227, `70_reset_and_hazards.md` R280). Taking an exception and returning from one have no
operation here: the block has neither (`60_exceptions.md` R250, R252). -/

namespace Sys2Proof.Machine

open Sys2Proof

/-! ## Single updates -/

/-- `acc <- a` (`10_state.md` R34). -/
def State.withAcc (s : State) (a : BitVec 8) : State := { s with acc := a }

/-- `shift <- v` (R35 to R37). -/
def State.withShift (s : State) (v : ShiftState) : State := { s with shift := v }

/-- `shift_evt <- b` (R39). -/
def State.withShiftEvt (s : State) (b : Bool) : State := { s with shiftEvt := b }

/-- `pending <- p` (R40). -/
def State.withPending (s : State) (p : Pending) : State := { s with pending := p }

/-- `hold <- w; sphase <- STALLED` (R38). -/
def State.stalledWith (s : State) (w : Report) : State := { s with hold := w, sphase := .stalled }

/-- `sphase <- IDLE` (R38). -/
def State.resumed (s : State) : State := { s with sphase := .idle }

/-- `relay_data <- w; relay_full <- 1`, in one step (R41, `20_memory.md` R67). -/
def State.relayPut (s : State) (w : Report) : State := { s with relayData := w, relayFull := true }

/-- `relay_full <- 0`; the stale word stays in place (R41, I17). -/
def State.relayTaken (s : State) : State := { s with relayFull := false }

/-- `q_mem[i] <- w` (R42). -/
def State.withSlot (s : State) (i : Nat) (w : Report) : State := { s with qMem := s.qMem.set i w }

/-- `q_head <- h; q_count <- n` (R42). -/
def State.withWindow (s : State) (h n : Nat) : State := { s with qHead := h, qCount := n }

/-- `pop_data <- w` (R43). -/
def State.withPopData (s : State) (w : Report) : State := { s with popData := w }

/-- The lines still to be served (the model's own field). -/
def State.withScript (s : State) (lines : List Line) : State := { s with script := lines }

/-! ## The output queue -/

/-- The word in slot `i` of the queue storage (`20_memory.md` R64). An index is always in range (R68). -/
def State.slot (s : State) (i : Nat) : Report := s.qMem.getD i 0x00000000#32

/-- The live entries `q_mem[(q_head + k) mod QUEUE_CAP]`, oldest first (`10_state.md` R42). -/
def liveEntries (c : Config) (s : State) : List Report :=
  (List.range s.qCount).map fun k => s.slot ((s.qHead + k) % c.queueCap)

/-- The slot an enqueue writes (R224). -/
def enqSlot (c : Config) (s : State) : Nat := (s.qHead + s.qCount) % c.queueCap

/-- `Q.enq(w)`: the youngest entry where there is room (R224); with the queue full `w` is discarded (R225). -/
def enqueue (c : Config) (w : Report) (s : State) : State :=
  if s.qCount < c.queueCap then (s.withSlot (enqSlot c s) w).withWindow s.qHead (s.qCount + 1) else s

/-- `Q.deq()` as `POP` does it: the oldest entry onto `pop_data` (R226), or the empty sentinel (R227). -/
def dequeue (c : Config) (s : State) : State :=
  if 0 < s.qCount then (s.withPopData (s.slot s.qHead)).withWindow ((s.qHead + 1) % c.queueCap) (s.qCount - 1)
  else s.withPopData 0x00000000#32

/-! ## The relay -/

/-- How many words the relay holds (R41). -/
def relayCount (s : State) : Nat := if s.relayFull then 1 else 0

/-- The relay has room for a word: it holds fewer than `RELAY_CAP` (R9). At the capacity 1 of the source, `relay_full = 0`. -/
def relayRoom (c : Config) (s : State) : Bool := decide (relayCount s < c.relayCap)

/-- `PUSH(w)`: into an empty relay (R220); a full relay keeps its word and the Scanner stalls with `w` (R221). -/
def pushReport (c : Config) (w : Report) (s : State) : State := if relayRoom c s then s.relayPut w else s.stalledWith w

/-- `RETRY_PUSH` is enabled exactly when `sphase = STALLED` and `relay_full = 0` (R222). -/
def retryEnabled (c : Config) (s : State) : Bool := s.sphase == .stalled && relayRoom c s

/-- `RETRY_PUSH` (R222); a step that is not enabled does not occur, and the state stays (log entry 3). -/
def retry (c : Config) (s : State) : State := if retryEnabled c s then (s.relayPut s.hold).resumed else s

/-- `DRAIN` is enabled exactly when `relay_full = 1` (R223). -/
def drainEnabled (s : State) : Bool := s.relayFull

/-- `DRAIN` (R223): the relay is emptied even when the queue is full; not enabled, the state stays (log entry 3). -/
def drainRelay (c : Config) (s : State) : State :=
  if drainEnabled s then enqueue c s.relayData s.relayTaken else s

/-! ## Reset -/

/-- `RESET` (R280): every element at its reset value; `hold`, `relay_data` and the slots of `q_mem` are unspecified, each
a free value of its own (log entry 6). The Host's lines are not part of the block and stay. -/
def resetBlock (c : Config) (s : State) : State :=
  { acc := 0x00#8
    shift := ShiftState.allOff
    shiftEvt := false
    pending := .none
    sphase := .idle
    hold := Config.freeWord s.freeCount
    relayFull := false
    relayData := Config.freeWord (s.freeCount + 1)
    qMem := (List.range c.queueCap).map fun k => Config.freeWord (s.freeCount + 2 + k)
    qHead := 0
    qCount := 0
    popData := 0x00000000#32
    script := s.script
    freeCount := s.freeCount + 2 + c.queueCap }

end Sys2Proof.Machine
end

