-- ==== Sys2Proof/Machine/Relay.lean ====
section
/-! DEFINITION. The meanings of the relay, queue and reset operations (`43_relay_queue.md`, `70_reset_and_hazards.md`
R280). -/

namespace Sys2Proof.Machine

open Sys2Proof

/-- `PUSH` (R220, R221). -/
def execPush (w : Report) (s : State) : Host.Outcome State Fault Refusal := .next (pushReport blockConfig w s)

/-- `RETRY_PUSH` (R222). -/
def execRetryPush (s : State) : Host.Outcome State Fault Refusal := .next (retry blockConfig s)

/-- `DRAIN` (R223). -/
def execDrain (s : State) : Host.Outcome State Fault Refusal := .next (drainRelay blockConfig s)

/-- `POP` (R226). -/
def execPop (s : State) : Host.Outcome State Fault Refusal := .next (dequeue blockConfig s)

/-- `RESET` (R280). -/
def execReset (s : State) : Host.Outcome State Fault Refusal := .next (resetBlock blockConfig s)

end Sys2Proof.Machine
end

