-- ==== Sys2Proof/Machine/Composer.lean ====
section
/-! DEFINITION. The Key Composer (`42_composer.md`): classification, the modifier-chaining protocol, and the meanings of
the eleven composer operations. As an operation of the machine each runs with what its caller, the decode cycle, does
with its results: `pending <- p2`, and `PUSH(w)` when `fwd = 1` (`40_sampler.md` R125; log entry 4). -/

namespace Sys2Proof.Machine

open Sys2Proof

/-- The class of an OutputCode with what `CLASSIFY` returns for it (R181). -/
inductive CodeClass where
  /-- `KEY`, with the code's own keycode and modifier bits. -/
  | key (kc : Keycode) (m : ModByte)
  /-- `START(x)`. -/
  | start (x : Pending)
deriving DecidableEq, Repr

/-- What `COMPOSE` returns: the report, present exactly when `fwd = 1`, and the new pending modifier (R180). -/
structure Composed where
  report  : Option Report
  pending : Pending
deriving DecidableEq, Repr

/-- The class of `CODE_GUI_KEY` (R190). -/
def guiKeyClass (c : Config) : CodeClass := .key (c.keymapCtrl c.codeGuiKey) c.modLgui

/-- The class of an assigned control key (R191). -/
def ctrlKeyClass (c : Config) (code : OutputCode) : CodeClass := .key (c.keymapCtrl code) 0x00#8

/-- The class of a printable code: the shift bit where the map marks it (R192). -/
def printableClass (c : Config) (code : OutputCode) : CodeClass :=
  .key (c.asciiKeymap code).kc (if (c.asciiKeymap code).shift then c.modLshift else 0x00#8)

/-- The class of `EXT1_CODE` (R193). -/
def ext1Class (c : Config) : CodeClass := .key c.ext1Key c.modRalt

/-- The class of `EXT2_CODE` (R194). -/
def ext2Class (c : Config) : CodeClass := .key c.ext2Key c.modLshift

/-- The class of `NONE` and of every unmapped code: no key (R185, R195). -/
def noKeyClass : CodeClass := .key 0x00#8 0x00#8

/-- `CLASSIFY(code)` (R181). -/
def classify (c : Config) (code : OutputCode) : CodeClass :=
  if code = 0x00#8 then noKeyClass
  else if code = c.codeCtrlStart then .start .ctrl
  else if code = c.codeAltStart then .start .alt
  else if code = c.codeAltctrlStart then .start .altctrl
  else if code = c.codeGuiStart then .start .gui
  else if code = c.codeGuiKey then guiKeyClass c
  else if c.ctrlKeys.contains code then ctrlKeyClass c code
  else if isPrintable code then printableClass c code
  else if code = c.ext1Code then ext1Class c
  else if code = c.ext2Code then ext2Class c
  else noKeyClass

/-- The marker keycodes of lanes 1 and 2 and the modifier bits a pending modifier adds (R183); none without one. -/
def markers (c : Config) : Pending → Keycode × Keycode × ModByte
  | .none => (0x00#8, 0x00#8, 0x00#8)
  | .ctrl => (c.kcLctrl, 0x00#8, c.modLctrl)
  | .alt => (c.kcLalt, 0x00#8, c.modLalt)
  | .altctrl => (c.kcLctrl, c.kcLalt, c.modLctrl ||| c.modLalt)
  | .gui => (c.kcLgui, 0x00#8, c.modLgui)

/-- The new pending modifier of a start cycle (R180): latched when nothing is pending; otherwise as
`START_AFTER_PENDING` says. -/
def startPending (c : Config) (x p : Pending) : Pending :=
  if p = .none then x else
    match c.startAfterPending with
    | .drop => .none
    | .relatch => x

/-- The report of a key under a pending modifier, the direct report when there is none (R182, R183), at `REPORT_W`. -/
def keyReport (c : Config) (kc : Keycode) (m : ModByte) (p : Pending) : Report :=
  atReportWidth c
    (if p = .none then pack kc 0x00#8 0x00#8 m
     else pack kc (markers c p).1 (markers c p).2.1 (m ||| (markers c p).2.2))

/-- The body of `COMPOSE` for a classified code (R180): a start cycle is absorbed; a cycle without a keycode of its own
forwards nothing and clears the pending modifier (R184); a keyed cycle forwards its report. -/
def composeClass (c : Config) (cls : CodeClass) (p : Pending) : Composed :=
  match cls with
  | .start x => ⟨Option.none, startPending c x p⟩
  | .key kc m => if kc = 0x00#8 then ⟨Option.none, .none⟩ else ⟨some (keyReport c kc m p), .none⟩

/-- `COMPOSE(code, p)` (R180). -/
def compose (c : Config) (code : OutputCode) (p : Pending) : Composed := composeClass c (classify c code) p

/-- What the decode cycle does with the composer's results (`40_sampler.md` R125): `pending <- p2`; `PUSH(w)` when
`fwd = 1`. -/
def afterCompose (c : Config) (r : Composed) (s : State) : State :=
  match r.report with
  | Option.none => s.withPending r.pending
  | some w => pushReport c w (s.withPending r.pending)

/-- One composer cycle with a code of the given class. -/
def composeCycle (c : Config) (cls : CodeClass) (s : State) : State := afterCompose c (composeClass c cls s.pending) s

/-! ## The composer's operations -/

/-- `COMP_NONE` (R185), under a configuration. -/
def compNoneAt (c : Config) (s : State) : State := composeCycle c noKeyClass s

/-- `COMP_NONE` (R185). -/
def execCompNone (s : State) : Host.Outcome State Fault Refusal := .next (compNoneAt blockConfig s)

/-- `COMP_CTRL_START` (R186), under a configuration. -/
def compCtrlStartAt (c : Config) (s : State) : State := composeCycle c (.start .ctrl) s

/-- `COMP_CTRL_START` (R186). -/
def execCompCtrlStart (s : State) : Host.Outcome State Fault Refusal := .next (compCtrlStartAt blockConfig s)

/-- `COMP_ALT_START` (R187), under a configuration. -/
def compAltStartAt (c : Config) (s : State) : State := composeCycle c (.start .alt) s

/-- `COMP_ALT_START` (R187). -/
def execCompAltStart (s : State) : Host.Outcome State Fault Refusal := .next (compAltStartAt blockConfig s)

/-- `COMP_ALTCTRL_START` (R188), under a configuration. -/
def compAltctrlStartAt (c : Config) (s : State) : State := composeCycle c (.start .altctrl) s

/-- `COMP_ALTCTRL_START` (R188). -/
def execCompAltctrlStart (s : State) : Host.Outcome State Fault Refusal := .next (compAltctrlStartAt blockConfig s)

/-- `COMP_GUI_START` (R189), under a configuration. -/
def compGuiStartAt (c : Config) (s : State) : State := composeCycle c (.start .gui) s

/-- `COMP_GUI_START` (R189). -/
def execCompGuiStart (s : State) : Host.Outcome State Fault Refusal := .next (compGuiStartAt blockConfig s)

/-- `COMP_GUI_KEY` (R190), under a configuration. -/
def compGuiKeyAt (c : Config) (s : State) : State := composeCycle c (guiKeyClass c) s

/-- `COMP_GUI_KEY` (R190). -/
def execCompGuiKey (s : State) : Host.Outcome State Fault Refusal := .next (compGuiKeyAt blockConfig s)

/-- `COMP_CTRLKEY` (R191), under a configuration. -/
def compCtrlkeyAt (c : Config) (code : OutputCode) (s : State) : State := composeCycle c (ctrlKeyClass c code) s

/-- `COMP_CTRLKEY` (R191). -/
def execCompCtrlkey (code : OutputCode) (s : State) : Host.Outcome State Fault Refusal :=
  .next (compCtrlkeyAt blockConfig code s)

/-- `COMP_PRINTABLE` (R192), under a configuration. -/
def compPrintableAt (c : Config) (code : OutputCode) (s : State) : State := composeCycle c (printableClass c code) s

/-- `COMP_PRINTABLE` (R192). -/
def execCompPrintable (code : OutputCode) (s : State) : Host.Outcome State Fault Refusal :=
  .next (compPrintableAt blockConfig code s)

/-- `COMP_EXT1` (R193), under a configuration. -/
def compExt1At (c : Config) (s : State) : State := composeCycle c (ext1Class c) s

/-- `COMP_EXT1` (R193). -/
def execCompExt1 (s : State) : Host.Outcome State Fault Refusal := .next (compExt1At blockConfig s)

/-- `COMP_EXT2` (R194), under a configuration. -/
def compExt2At (c : Config) (s : State) : State := composeCycle c (ext2Class c) s

/-- `COMP_EXT2` (R194). -/
def execCompExt2 (s : State) : Host.Outcome State Fault Refusal := .next (compExt2At blockConfig s)

/-- `COMP_UNMAPPED` (R195), under a configuration: whatever the code, no key. -/
def compUnmappedAt (c : Config) (_code : OutputCode) (s : State) : State := composeCycle c noKeyClass s

/-- `COMP_UNMAPPED` (R195). -/
def execCompUnmapped (code : OutputCode) (s : State) : Host.Outcome State Fault Refusal :=
  .next (compUnmappedAt blockConfig code s)

end Sys2Proof.Machine
end

