-- ==== Sys2Proof/Machine/Decoder.lean ====
section
/-! DEFINITION. The Chord Decoder (`41_decoder.md`): the cascade, the ten branches, the case table, the decode cycle of
`40_sampler.md` R125, and the meanings of the ten decoder operations. As an operation of the machine a branch runs as
the decode cycle of a chord that selects it: its results are written and its code goes to the composer (log entry 4). -/

namespace Sys2Proof.Machine

open Sys2Proof

/-- What `DECODE` returns: the code (`NONE` is `0x00`), the new ShiftState and the shift-event bit (R140). -/
structure Decoded where
  code  : OutputCode
  shift : ShiftState
  evt   : Bool
deriving DecidableEq, Repr

/-- The four tables of a table family (R146). -/
structure TableFamily where
  eTier : TableId
  nTier : TableId
  cTier : TableId
  pTier : TableId
deriving DecidableEq, Repr

/-- `PLAINFAM` (R146). -/
def plainFamily : TableFamily := ⟨.e, .num, .caps, .plain⟩

/-- `THUMBFAM` (R146). -/
def thumbFamily : TableFamily := ⟨.eThumb, .numThumb, .capsThumb, .thumb⟩

/-- `upper(c)`: the 26 ASCII letters, nothing else (R145). -/
def upper (code : OutputCode) : OutputCode :=
  if 0x61#8 ≤ code ∧ code ≤ 0x7A#8 then code - 0x20#8 else code

/-- `CASCADE(fam, F, s)`: EShift, then NumLock, then Caps, then plain; only the selected tier's flag changes (R143). -/
def cascade (c : Config) (fam : TableFamily) (f : Fset) (s : ShiftState) : Decoded :=
  if s.esh = .transient then ⟨c.rom fam.eTier f, { s with esh := .off }, false⟩
  else if s.num ≠ .off then ⟨c.rom fam.nTier f, { s with num := consume s.num }, false⟩
  else if s.caps ≠ .off then ⟨upper (c.rom fam.cTier f), { s with caps := consume s.caps }, false⟩
  else ⟨c.rom fam.pTier f, s, false⟩

/-! ## The ten branches -/

/-- `DEC_CHAR(F, s)` (R147). -/
def decChar (c : Config) (f : Fset) (s : ShiftState) : Decoded := cascade c plainFamily f s

/-- `DEC_THUMB(F, s)` (R148). -/
def decThumb (c : Config) (f : Fset) (s : ShiftState) : Decoded := cascade c thumbFamily f s

/-- `DEC_NUM(F, s)` (R149). -/
def decNum (c : Config) (f : Fset) (s : ShiftState) : Decoded :=
  if s.esh = .transient then ⟨c.rom .ctm f, { s with esh := .off }, false⟩ else ⟨c.rom .num f, s, false⟩

/-- `DEC_CAPS_TOGGLE(s)` (R150). -/
def decCapsToggle (s : ShiftState) : Decoded := ⟨0x00#8, { s with caps := toggle s.caps }, true⟩

/-- `DEC_COMMAND(F, s)` (R151). -/
def decCommand (c : Config) (f : Fset) (s : ShiftState) : Decoded := ⟨c.rom .cmd f, s, false⟩

/-- `DEC_NUMLOCK_TOGGLE(s)` (R152). -/
def decNumlockToggle (s : ShiftState) : Decoded := ⟨0x00#8, { s with num := toggle s.num }, false⟩

/-- `DEC_PANIC_CLEAR(s)` (R153). -/
def decPanicClear (_s : ShiftState) : Decoded := ⟨0x00#8, ShiftState.allOff, false⟩

/-- `DEC_ESHIFT_SET(s)` (R154). -/
def decEshiftSet (s : ShiftState) : Decoded := ⟨0x00#8, { s with esh := .transient }, false⟩

/-- `DEC_COUNTERMAND(F, s)` (R155). -/
def decCountermand (c : Config) (f : Fset) (s : ShiftState) : Decoded := ⟨c.rom .ctm f, s, false⟩

/-- `DEC_NOP(s)` (R156). -/
def decNop (s : ShiftState) : Decoded := ⟨0x00#8, s, false⟩

/-- `DECODE(mask, s)`: the case table, first match wins (R142). -/
def decodeChord (c : Config) (mask : ChordMask) (s : ShiftState) : Decoded :=
  if mods c mask = 0b0000#4 ∧ fset c mask ≠ 0#4 then decChar c (fset c mask) s
  else if mods c mask = 0b0001#4 then decThumb c (fset c mask) s
  else if mods c mask = 0b0100#4 ∧ fset c mask ≠ 0#4 then decNum c (fset c mask) s
  else if mask = capsAlone c then decCapsToggle s
  else if mods c mask = 0b0010#4 ∧ fset c mask ≠ 0#4 then decCommand c (fset c mask) s
  else if mask = thumbNumAlone c then decNumlockToggle s
  else if mask = thumbCapsAlone c then decPanicClear s
  else if mask = numCapsAlone c then decEshiftSet s
  else if mods c mask = 0b0110#4 ∧ fset c mask ≠ 0#4 then decCountermand c (fset c mask) s
  else decNop s

/-! ## The decode cycle -/

/-- The decode cycle runs the composer on this code: always, or on a code other than NONE only, as `COMPOSE_ON_NONE`
says (`40_sampler.md` R125). -/
def runsComposer (c : Config) (code : OutputCode) : Bool := c.composeOnNone || code != 0x00#8

/-- What the decode cycle does with the decoder's results (R125): `shift <- s2`; `shift_evt <- 1` when `evt = 1`; then
the composer, and the push. -/
def afterDecode (c : Config) (r : Decoded) (s : State) : State :=
  if runsComposer c r.code then
    composeCycle c (classify c r.code) ((s.withShift r.shift).withShiftEvt (s.shiftEvt || r.evt))
  else (s.withShift r.shift).withShiftEvt (s.shiftEvt || r.evt)

/-- `DECODE_CYCLE(chord)` (R125). -/
def decodeCycle (c : Config) (chord : ChordMask) (s : State) : State := afterDecode c (decodeChord c chord s.shift) s

/-! ## The decoder's operations -/

/-- `DEC_CHAR` (R147), under a configuration. -/
def decCharAt (c : Config) (f : Fset) (s : State) : State := afterDecode c (decChar c f s.shift) s

/-- `DEC_CHAR` (R147). -/
def execDecChar (f : Fset) (s : State) : Host.Outcome State Fault Refusal := .next (decCharAt blockConfig f s)

/-- `DEC_THUMB` (R148), under a configuration. -/
def decThumbAt (c : Config) (f : Fset) (s : State) : State := afterDecode c (decThumb c f s.shift) s

/-- `DEC_THUMB` (R148). -/
def execDecThumb (f : Fset) (s : State) : Host.Outcome State Fault Refusal := .next (decThumbAt blockConfig f s)

/-- `DEC_NUM` (R149), under a configuration. -/
def decNumAt (c : Config) (f : Fset) (s : State) : State := afterDecode c (decNum c f s.shift) s

/-- `DEC_NUM` (R149). -/
def execDecNum (f : Fset) (s : State) : Host.Outcome State Fault Refusal := .next (decNumAt blockConfig f s)

/-- `DEC_CAPS_TOGGLE` (R150), under a configuration. -/
def decCapsToggleAt (c : Config) (s : State) : State := afterDecode c (decCapsToggle s.shift) s

/-- `DEC_CAPS_TOGGLE` (R150). -/
def execDecCapsToggle (s : State) : Host.Outcome State Fault Refusal := .next (decCapsToggleAt blockConfig s)

/-- `DEC_COMMAND` (R151), under a configuration. -/
def decCommandAt (c : Config) (f : Fset) (s : State) : State := afterDecode c (decCommand c f s.shift) s

/-- `DEC_COMMAND` (R151). -/
def execDecCommand (f : Fset) (s : State) : Host.Outcome State Fault Refusal := .next (decCommandAt blockConfig f s)

/-- `DEC_NUMLOCK_TOGGLE` (R152), under a configuration. -/
def decNumlockToggleAt (c : Config) (s : State) : State := afterDecode c (decNumlockToggle s.shift) s

/-- `DEC_NUMLOCK_TOGGLE` (R152). -/
def execDecNumlockToggle (s : State) : Host.Outcome State Fault Refusal := .next (decNumlockToggleAt blockConfig s)

/-- `DEC_PANIC_CLEAR` (R153), under a configuration. -/
def decPanicClearAt (c : Config) (s : State) : State := afterDecode c (decPanicClear s.shift) s

/-- `DEC_PANIC_CLEAR` (R153). -/
def execDecPanicClear (s : State) : Host.Outcome State Fault Refusal := .next (decPanicClearAt blockConfig s)

/-- `DEC_ESHIFT_SET` (R154), under a configuration. -/
def decEshiftSetAt (c : Config) (s : State) : State := afterDecode c (decEshiftSet s.shift) s

/-- `DEC_ESHIFT_SET` (R154). -/
def execDecEshiftSet (s : State) : Host.Outcome State Fault Refusal := .next (decEshiftSetAt blockConfig s)

/-- `DEC_COUNTERMAND` (R155), under a configuration. -/
def decCountermandAt (c : Config) (f : Fset) (s : State) : State := afterDecode c (decCountermand c f s.shift) s

/-- `DEC_COUNTERMAND` (R155). -/
def execDecCountermand (f : Fset) (s : State) : Host.Outcome State Fault Refusal := .next (decCountermandAt blockConfig f s)

/-- `DEC_NOP` (R156), under a configuration: whatever the mask, no code and no flag. -/
def decNopAt (c : Config) (_mask : ChordMask) (s : State) : State := afterDecode c (decNop s.shift) s

/-- `DEC_NOP` (R156). -/
def execDecNop (mask : ChordMask) (s : State) : Host.Outcome State Fault Refusal := .next (decNopAt blockConfig mask s)

end Sys2Proof.Machine
end

