-- ==== Sys2Proof/Machine/Sampler.lean ====
section
/-! DEFINITION. The Switch Sampler and Chord Accumulator (`40_sampler.md`): `SCAN_TICK`. -/

namespace Sys2Proof.Machine

open Sys2Proof

/-- `SCAN_TICK(sw_n)` (R120): no sample while stalled (R122); accumulation while any switch is pressed (R123);
completion, which clears the accumulator and runs the decode cycle in the same step (R124, R125); an idle tick changes
nothing (R127). -/
def scanTick (c : Config) (swN : BitVec 8) (s : State) : State :=
  if s.sphase = .stalled then s
  else if sample c swN ≠ 0x00#8 then s.withAcc (s.acc ||| sample c swN)
  else if s.acc ≠ 0x00#8 then decodeCycle c s.acc (s.withAcc 0x00#8)
  else s

/-- `SCAN_TICK` (R120). -/
def execScanTick (swN : BitVec 8) (s : State) : Host.Outcome State Fault Refusal := .next (scanTick blockConfig swN s)

end Sys2Proof.Machine
end

