-- ==== Sys2Proof/Machine/Dispatch.lean ====
section
/-! DEFINITION. The dispatch of an operation to its meaning, one arm per constructor of `Instr`. -/

namespace Sys2Proof.Machine

open Sys2Proof

/-- The meaning of an operation. -/
def exec (i : Instr) (s : State) : Host.Outcome State Fault Refusal :=
  match i with
  | .scanTick swN => Sys2Proof.Machine.execScanTick swN s
  | .decChar f => Sys2Proof.Machine.execDecChar f s
  | .decThumb f => Sys2Proof.Machine.execDecThumb f s
  | .decNum f => Sys2Proof.Machine.execDecNum f s
  | .decCapsToggle => Sys2Proof.Machine.execDecCapsToggle s
  | .decCommand f => Sys2Proof.Machine.execDecCommand f s
  | .decNumlockToggle => Sys2Proof.Machine.execDecNumlockToggle s
  | .decPanicClear => Sys2Proof.Machine.execDecPanicClear s
  | .decEshiftSet => Sys2Proof.Machine.execDecEshiftSet s
  | .decCountermand f => Sys2Proof.Machine.execDecCountermand f s
  | .decNop mask => Sys2Proof.Machine.execDecNop mask s
  | .compNone => Sys2Proof.Machine.execCompNone s
  | .compCtrlStart => Sys2Proof.Machine.execCompCtrlStart s
  | .compAltStart => Sys2Proof.Machine.execCompAltStart s
  | .compAltctrlStart => Sys2Proof.Machine.execCompAltctrlStart s
  | .compGuiStart => Sys2Proof.Machine.execCompGuiStart s
  | .compGuiKey => Sys2Proof.Machine.execCompGuiKey s
  | .compCtrlkey code => Sys2Proof.Machine.execCompCtrlkey code s
  | .compPrintable code => Sys2Proof.Machine.execCompPrintable code s
  | .compExt1 => Sys2Proof.Machine.execCompExt1 s
  | .compExt2 => Sys2Proof.Machine.execCompExt2 s
  | .compUnmapped code => Sys2Proof.Machine.execCompUnmapped code s
  | .push w => Sys2Proof.Machine.execPush w s
  | .retryPush => Sys2Proof.Machine.execRetryPush s
  | .drain => Sys2Proof.Machine.execDrain s
  | .pop => Sys2Proof.Machine.execPop s
  | .reset => Sys2Proof.Machine.execReset s

end Sys2Proof.Machine
end

