-- ==== Sys2Proof/Machine/Fetch.lean ====
section
/-! DEFINITION. What the next step serves: the head of the script, or an enabled internal step
(`60_exceptions.md` R253, R259, R264). The block fetches no instructions (`10_state.md` R32). -/

namespace Sys2Proof.Machine

open Sys2Proof

/-- The next script line and the state with that line served. -/
def nextLine (s : State) : Option (Line × State) :=
  match s.script with
  | [] => none
  | line :: rest => some (line, s.withScript rest)

/-- The internal step that is enabled: `RETRY_PUSH` needs an empty relay and `DRAIN` a full one, so at most one is
(R253). -/
def internalStep (c : Config) (s : State) : Option Instr :=
  if retryEnabled c s then some .retryPush else if drainEnabled s then some .drain else none

/-- The state with an opcode-table word placed as the line the next step serves (log entry 10). -/
def placeTableWord (s : State) (nbits w : Nat) : State :=
  match tableLine blockConfig nbits w with
  | none => s
  | some line =>
    if line.format = .drain then (s.relayPut (BitVec.ofNat 32 w)).withScript (line :: s.script.tail)
    else s.withScript (line :: s.script.tail)

end Sys2Proof.Machine
end

