-- ==== Sys2Proof/Machine/Step.lean ====
section
/-! DEFINITION. One step of the machine (`60_exceptions.md` R253 to R255). -/

namespace Sys2Proof.Machine

open Sys2Proof

/-- One step: the operation of the next script line, run with that line served; with no line left, the internal step
that is enabled, if any (log entries 1 and 2). A line that is no encoding of an operation is refused by name. -/
def step (s : State) : Host.Outcome State Fault Refusal :=
  match nextLine s with
  | some (line, s1) =>
    match decodeLine blockConfig line with
    | .ok i => exec i s1
    | .error e => .refused (.undecodable e)
  | none =>
    match internalStep blockConfig s with
    | some i => exec i s
    | none => .next s

/-- The state with the instruction word `w` of `nbits` bits in the place the next step serves: the head of the script. A
`DRAIN` word is its operand `relay_data`, so the relay is loaded with it. A word that stands for no line changes nothing. -/
def State.withFetchWord (s : State) (nbits w : Nat) : State := placeTableWord s nbits w

end Sys2Proof.Machine
end

