-- ==== Sys2Proof/Machine/Configured.lean ====
section
/-! DEFINITION. The machine under a configuration: `00_scope.md` R9 asks that a model take each parameter as an argument.
The host's `exec` and `step` are these at `blockConfig` (`exec_eq_execAt`, `step_eq_stepAt` in `Sys2Proof/Laws/Configured.lean`).
-/

namespace Sys2Proof.Machine

open Sys2Proof

/-- The next state of an operation under a configuration. -/
def execAt (c : Config) (i : Instr) (s : State) : State :=
  match i with
  | .scanTick swN => scanTick c swN s
  | .decChar f => decCharAt c f s
  | .decThumb f => decThumbAt c f s
  | .decNum f => decNumAt c f s
  | .decCapsToggle => decCapsToggleAt c s
  | .decCommand f => decCommandAt c f s
  | .decNumlockToggle => decNumlockToggleAt c s
  | .decPanicClear => decPanicClearAt c s
  | .decEshiftSet => decEshiftSetAt c s
  | .decCountermand f => decCountermandAt c f s
  | .decNop mask => decNopAt c mask s
  | .compNone => compNoneAt c s
  | .compCtrlStart => compCtrlStartAt c s
  | .compAltStart => compAltStartAt c s
  | .compAltctrlStart => compAltctrlStartAt c s
  | .compGuiStart => compGuiStartAt c s
  | .compGuiKey => compGuiKeyAt c s
  | .compCtrlkey code => compCtrlkeyAt c code s
  | .compPrintable code => compPrintableAt c code s
  | .compExt1 => compExt1At c s
  | .compExt2 => compExt2At c s
  | .compUnmapped code => compUnmappedAt c code s
  | .push w => pushReport c w s
  | .retryPush => retry c s
  | .drain => drainRelay c s
  | .pop => dequeue c s
  | .reset => resetBlock c s

/-- One step under a configuration (`60_exceptions.md` R253; log entries 1 and 2). -/
def stepAt (c : Config) (s : State) : Host.Outcome State Fault Refusal :=
  match nextLine s with
  | some (line, s1) =>
    match decodeLine c line with
    | .ok i => .next (execAt c i s1)
    | .error e => .refused (.undecodable e)
  | none =>
    match internalStep c s with
    | some i => .next (execAt c i s)
    | none => .next s

end Sys2Proof.Machine
end

