-- ==== Sys2Proof/Safety.lean ====
section
/-! DEFINITION. The terms the statements use: the invariant of `10_state.md` R46, the reports in flight
(`20_memory.md` R72, R73), the report an operation forwards, the log of a run, and when two states cannot be told apart
(`70_reset_and_hazards.md` R280). -/

namespace Sys2Proof.Machine

open Sys2Proof

/-! ## The invariant -/

/-- The queue storage has its `QUEUE_CAP` slots and the window lies in it (R46, 1). -/
structure State.QueueShape (c : Config) (s : State) : Prop where
  mem_length : s.qMem.length = c.queueCap
  head_lt    : s.qHead < c.queueCap
  count_le   : s.qCount ≤ c.queueCap

/-- The invariant of R46: the queue's shape; every live entry, the relay word and the held word carry a key in lane 0
(2 and 3). Its clause 4 holds by type. -/
structure State.WF (c : Config) (s : State) : Prop where
  shape       : s.QueueShape c
  live_keyed  : ∀ w ∈ liveEntries c s, lane w 0 ≠ 0x00#8
  relay_keyed : s.relayFull = true → lane s.relayData 0 ≠ 0x00#8
  hold_keyed  : s.sphase = .stalled → lane s.hold 0 ≠ 0x00#8

/-! ## Reports in flight -/

/-- The word in the relay, if any. -/
def relayWords (s : State) : List Report := if s.relayFull then [s.relayData] else []

/-- The word a stalled Scanner holds, if any. -/
def heldWords (s : State) : List Report := if s.sphase = .stalled then [s.hold] else []

/-- Every report on its way to a pop, oldest first: queue, relay, stalled push. -/
def inFlight (c : Config) (s : State) : List Report := liveEntries c s ++ relayWords s ++ heldWords s

/-- The report a decode cycle pushes for these decoder results, if any (`40_sampler.md` R125). -/
def decodedReport (c : Config) (r : Decoded) (p : Pending) : Option Report :=
  if runsComposer c r.code then (compose c r.code p).report else none

/-- The chord a scan tick completes, if any (R124). -/
def completedChord (swN : BitVec 8) (s : State) : Option ChordMask :=
  if s.sphase = .idle ∧ ~~~swN = 0x00#8 ∧ s.acc ≠ 0x00#8 then some s.acc else none

/-- The report an operation hands to `PUSH`, if any. -/
def forwards (c : Config) (i : Instr) (s : State) : Option Report :=
  match i with
  | .scanTick swN => (completedChord swN s).bind fun chord => decodedReport c (decodeChord c chord s.shift) s.pending
  | .decChar f => decodedReport c (decChar c f s.shift) s.pending
  | .decThumb f => decodedReport c (decThumb c f s.shift) s.pending
  | .decNum f => decodedReport c (decNum c f s.shift) s.pending
  | .decCapsToggle => decodedReport c (decCapsToggle s.shift) s.pending
  | .decCommand f => decodedReport c (decCommand c f s.shift) s.pending
  | .decNumlockToggle => decodedReport c (decNumlockToggle s.shift) s.pending
  | .decPanicClear => decodedReport c (decPanicClear s.shift) s.pending
  | .decEshiftSet => decodedReport c (decEshiftSet s.shift) s.pending
  | .decCountermand f => decodedReport c (decCountermand c f s.shift) s.pending
  | .decNop _ => decodedReport c (decNop s.shift) s.pending
  | .compNone => (composeClass c noKeyClass s.pending).report
  | .compCtrlStart => (composeClass c (.start .ctrl) s.pending).report
  | .compAltStart => (composeClass c (.start .alt) s.pending).report
  | .compAltctrlStart => (composeClass c (.start .altctrl) s.pending).report
  | .compGuiStart => (composeClass c (.start .gui) s.pending).report
  | .compGuiKey => (composeClass c (guiKeyClass c) s.pending).report
  | .compCtrlkey code => (composeClass c (ctrlKeyClass c code) s.pending).report
  | .compPrintable code => (composeClass c (printableClass c code) s.pending).report
  | .compExt1 => (composeClass c (ext1Class c) s.pending).report
  | .compExt2 => (composeClass c (ext2Class c) s.pending).report
  | .compUnmapped _ => (composeClass c noKeyClass s.pending).report
  | .push w => some w
  | .retryPush => none
  | .drain => none
  | .pop => none
  | .reset => none

/-! ## Runs -/

/-- The operation the next step runs and the state it runs at, if there is one. -/
def nextOp (s : State) : Option (Instr × State) :=
  match nextLine s with
  | some (line, s1) => (decodeLine blockConfig line).toOption.map fun i => (i, s1)
  | none => (internalStep blockConfig s).map fun i => (i, s)

/-- Every line of the script is an agent step of `60_exceptions.md` R253: a run of the block itself. -/
def agentScript (s : State) : Prop := ∀ l ∈ s.script, l.isAgentStep = true

/-- No line of the script is a reset. -/
def noResetLine (s : State) : Prop := ∀ l ∈ s.script, l.format ≠ .rst

/-- The report the next step forwards, as a list. -/
def forwardedNow (s : State) : List Report :=
  match nextOp s with
  | some (i, s1) => (forwards blockConfig i s1).toList
  | none => []

/-- The report the next step, which leads to `t`, returns to the Host; the empty sentinel is none (R227). -/
def poppedNow (s t : State) : List Report :=
  match nextOp s with
  | some (i, s1) => if i = .pop ∧ 0 < s1.qCount then [t.popData] else []
  | none => []

/-- The report the next step drops at a full queue (`43_relay_queue.md` R225). -/
def droppedNow (s : State) : List Report :=
  match nextOp s with
  | some (i, s1) => if i = .drain ∧ s1.relayFull = true ∧ ¬ s1.qCount < blockConfig.queueCap then [s1.relayData] else []
  | none => []

/-- What a run did: the reports forwarded, returned and dropped, each in order, and the state it ended in. -/
structure RunLog where
  forwarded : List Report
  popped    : List Report
  dropped   : List Report
  final     : State
deriving DecidableEq, Repr

/-- The log of at most `n` steps; a line that is no encoding ends the run. -/
def runLog : Nat → State → RunLog
  | 0, s => ⟨[], [], [], s⟩
  | n + 1, s =>
    match step s with
    | .next t =>
      ⟨forwardedNow s ++ (runLog n t).forwarded, poppedNow s t ++ (runLog n t).popped,
        droppedNow s ++ (runLog n t).dropped, (runLog n t).final⟩
    | .fault _ => ⟨[], [], [], s⟩
    | .refused _ => ⟨[], [], [], s⟩

/-- The state after a list of scan ticks with these switch lines. -/
def afterTicks (c : Config) (lines : List (BitVec 8)) (s : State) : State := lines.foldl (fun t swN => scanTick c swN t) s

/-- The OR of the samples of these switch lines. -/
def samplesOr (lines : List (BitVec 8)) : ChordMask := lines.foldl (fun m swN => m ||| ~~~swN) 0x00#8

/-- The queue after these words are enqueued in turn. -/
def enqueueAll (c : Config) (ws : List Report) (s : State) : State := ws.foldl (fun t w => enqueue c w t) s

/-- What `n` pops in a row leave on `pop_data`, in order. -/
def popsReturn (c : Config) : Nat → State → List Report
  | 0, _ => []
  | n + 1, s => (dequeue c s).popData :: popsReturn c n (dequeue c s)

/-! ## What can be told apart -/

/-- The two states agree on everything but the words no rule reads: `hold` while `IDLE`, `relay_data` while the relay is
empty, the queue slots outside the live window (R280), and the model's own count of free values. -/
structure Agree (c : Config) (s t : State) : Prop where
  acc       : s.acc = t.acc
  shift     : s.shift = t.shift
  shiftEvt  : s.shiftEvt = t.shiftEvt
  pending   : s.pending = t.pending
  sphase    : s.sphase = t.sphase
  hold      : s.sphase = .stalled → s.hold = t.hold
  relayFull : s.relayFull = t.relayFull
  relayData : s.relayFull = true → s.relayData = t.relayData
  qHead     : s.qHead = t.qHead
  qCount    : s.qCount = t.qCount
  live      : liveEntries c s = liveEntries c t
  popData   : s.popData = t.popData
  script    : s.script = t.script

/-! ## Families -/

/-- Who takes an operation's step (`00_scope.md` R8): a Sampler, Composer, push or retry step is the Scanner's, and so is a
decoder branch, named apart because only the Decoder writes flags (`10_state.md` R44). -/
inductive OpOwner where
  | scanner | decoder | reporter | all
deriving DecidableEq, Repr

/-- The owner of an operation. -/
def opOwner : Instr → OpOwner
  | .scanTick _ => .scanner
  | .decChar _ => .decoder
  | .decThumb _ => .decoder
  | .decNum _ => .decoder
  | .decCapsToggle => .decoder
  | .decCommand _ => .decoder
  | .decNumlockToggle => .decoder
  | .decPanicClear => .decoder
  | .decEshiftSet => .decoder
  | .decCountermand _ => .decoder
  | .decNop _ => .decoder
  | .compNone => .scanner
  | .compCtrlStart => .scanner
  | .compAltStart => .scanner
  | .compAltctrlStart => .scanner
  | .compGuiStart => .scanner
  | .compGuiKey => .scanner
  | .compCtrlkey _ => .scanner
  | .compPrintable _ => .scanner
  | .compExt1 => .scanner
  | .compExt2 => .scanner
  | .compUnmapped _ => .scanner
  | .push _ => .scanner
  | .retryPush => .scanner
  | .drain => .reporter
  | .pop => .reporter
  | .reset => .all

/-! ## The results of operations -/

/-- The operation `i` at `s` completes, in the state in which the composer's operation for `code` completes at `s1`: the
decoder handed `code` to the composer after writing `s1` (`40_sampler.md` R125). -/
def ComposesAs (i : Instr) (s : State) (code : OutputCode) (s1 : State) : Prop :=
  ∃ t, exec i s = .next t ∧ exec (codeInstr blockConfig code) s1 = .next t

/-- The state in which the report `w` has been pushed from `s`, every element written out: into an empty relay (R220), or
held by a stalled Scanner (R221). -/
def pushedState (w : Report) (s : State) : State :=
  if s.relayFull = true then { s with hold := w, sphase := .stalled }
  else { s with relayData := w, relayFull := true }

/-- The report of a key `kc` with modifier bits `m` under a pending modifier, lane by lane from the most significant
(`30_encoding.md` R98, R99; `42_composer.md` R182, R183), under the default maps. -/
def chainedReport (kc : Keycode) (m : ModByte) : Pending → Report
  | .none => m ++ 0x00#8 ++ 0x00#8 ++ kc
  | .ctrl => (m ||| 0x01#8) ++ 0x00#8 ++ 0xE0#8 ++ kc
  | .alt => (m ||| 0x04#8) ++ 0x00#8 ++ 0xE2#8 ++ kc
  | .altctrl => (m ||| 0x05#8) ++ 0xE2#8 ++ 0xE0#8 ++ kc
  | .gui => (m ||| 0x08#8) ++ 0x00#8 ++ 0xE3#8 ++ kc

/-- The operation completes by forwarding the key `kc` with modifier bits `m` and clearing the pending modifier. -/
def ForwardsKey (i : Instr) (kc : Keycode) (m : ModByte) (s : State) : Prop :=
  exec i s = .next (pushedState (chainedReport kc m s.pending) { s with pending := .none })

end Sys2Proof.Machine
end

