-- ==== Sys2Proof/Certificates/Slice0/Obligations.lean ====
section
/-! DEFINITION. The statements about the chord block. Each docstring names the rule of spec/ it formalises, and says
where a statement rests on the model's own choice (with its log entry) or on a sentence the spec marks as derived. A
statement about a `DEC_*` or `COMP_*` operation rests on log entry 4: as an instruction of the model such an operation runs
with the rest of the decode cycle of R125. -/

open Sys2Proof Sys2Proof.Machine

/-! ## Encoding -/

/-- Decoding the encoding of any well-formed operation gives it back, under every well-formed configuration (every
numbering of R95 that meets R10, every placement of the modifier switches, every queue capacity). -/
def Obligations.DecodeOfEncodeIsTheOperation : Prop :=
  ∀ c : Config, c.WF → ∀ i : Instr, wellFormed c i = true → decodeLine c (encodeLine c i) = .ok i

/-- What a line decodes to is well-formed and encodes back to the line: no operand bit is dropped. -/
def Obligations.EncodeOfDecodeIsTheLine : Prop :=
  ∀ c : Config, c.WF → ∀ (l : Line) (i : Instr), decodeLine c l = .ok i →
    wellFormed c i = true ∧ encodeLine c i = l

/-- A few words written out from the spec's encodings decode to their operations (R14, R91, R95). -/
def Obligations.WordsOfTheSpecDecode : Prop :=
  decodeLine blockConfig ⟨.scanTick, [0b11110011#8]⟩ = .ok (.scanTick 0xF3#8) ∧
  decodeLine blockConfig ⟨.chordMask, [0b00001100#8]⟩ = .ok (.decChar 0xC#4) ∧
  decodeLine blockConfig ⟨.chordMask, [0b00010000#8]⟩ = .ok (.decThumb 0x0#4) ∧
  decodeLine blockConfig ⟨.chordMask, [0b01100000#8]⟩ = .ok .decEshiftSet ∧
  decodeLine blockConfig ⟨.chordMask, [0b10001100#8]⟩ = .ok (.decNop 0x8C#8) ∧
  decodeLine blockConfig ⟨.outputCode, [0b00000011#8]⟩ = .ok .compAltctrlStart ∧
  decodeLine blockConfig ⟨.outputCode, [0b01100001#8]⟩ = .ok (.compPrintable 0x61#8) ∧
  decodeLine blockConfig ⟨.push, [0x06#8, 0xE0#8, 0x00#8, 0x01#8]⟩ = .ok (.push 0x0100E006#32) ∧
  decodeLine blockConfig ⟨.popReq, []⟩ = .ok .pop

/-- The branch conditions of the case table are pairwise disjoint, under every well-formed configuration; with the
decided placement they take 15, 16, 15, 1, 15, 1, 1, 1 and 15 masks and `DEC_NOP` the other 176 (R158, which the
spec derives from R142 and R90). -/
def Obligations.BranchConditionsAreDisjointAndCover : Prop :=
  (∀ c : Config, c.WF → ∀ mask : ChordMask, (branchTests c).countP (fun test => test mask) ≤ 1) ∧
  ((branchTests blockConfig).map fun test => ((List.range 256).map (BitVec.ofNat 8)).countP test) =
    [15, 16, 15, 1, 15, 1, 1, 1, 15] ∧
  ((List.range 256).map (BitVec.ofNat 8)).countP (isNopMask blockConfig) = 176

/-- Every mask with the Repeat bit set is `DEC_NOP`: it emits no code and changes no flag (R160, which the spec
derives from R142 and R156). -/
def Obligations.RepeatMasksAreNoOps : Prop :=
  ∀ c : Config, c.WF → ∀ mask : ChordMask, (mods c mask).getLsbD 3 = true →
    chordInstr c mask = .decNop mask ∧ ∀ s : ShiftState, decodeChord c mask s = ⟨0x00#8, s, false⟩

/-- The decided configuration is well-formed (R10, R61). -/
def Obligations.BlockConfigIsWellFormed : Prop := blockConfig.WF

/-- The bit encodings of the ShiftState and the PendingModifier read back, and the codes `0b11` and `0b101..0b111`
stand for nothing (R96, R97). -/
def Obligations.StateEncodingsReadBack : Prop :=
  (∀ s : ShiftState, shiftOfBits (shiftBits s) = some s) ∧
  (∀ b : BitVec 5, b.extractLsb' 3 2 = 0b11#2 ∨ b.extractLsb' 1 2 = 0b11#2 → shiftOfBits b = none) ∧
  (shiftBits ⟨.locked, .transient, .off⟩ = 0b10010#5) ∧
  (∀ p : Pending, pendingOfBits (pendingBits p) = some p) ∧
  (∀ b : BitVec 3, 0b101#3 ≤ b → pendingOfBits b = none) ∧
  ([Pending.none, .ctrl, .alt, .altctrl, .gui].map pendingBits = [0b000#3, 0b001#3, 0b010#3, 0b011#3, 0b100#3])

/-- The decoder table space: the entry at `{tid, F}` is entry `F` of table `tid`, and the identifiers `0xA..0xF`
address no table (R60). -/
def Obligations.TableSpaceIsAddressedByTidAndFset : Prop :=
  (∀ (c : Config) (t : TableId) (f : Fset), romAt c (tableTid t ++ f) = some (c.rom t f)) ∧
  (∀ (c : Config) (tid : BitVec 4) (f : Fset), 0xA#4 ≤ tid → romAt c (tid ++ f) = none) ∧
  ([TableId.plain, .caps, .num, .e, .thumb, .capsThumb, .numThumb, .eThumb, .ctm, .cmd].map tableTid =
    [0x0#4, 0x1#4, 0x2#4, 0x3#4, 0x4#4, 0x5#4, 0x6#4, 0x7#4, 0x8#4, 0x9#4])

/-- `pack(k0, k1, k2, m) = {m, k2, k1, k0}`: lane `k` of a report is bits `[8k+7:8k]` (R98: the spec's decision D22). -/
def Obligations.PackPlacesEveryLane : Prop :=
  (∀ (k0 k1 k2 : Keycode) (m : ModByte),
    (pack k0 k1 k2 m).extractLsb' 0 8 = k0 ∧ (pack k0 k1 k2 m).extractLsb' 8 8 = k1 ∧
    (pack k0 k1 k2 m).extractLsb' 16 8 = k2 ∧ (pack k0 k1 k2 m).extractLsb' 24 8 = m) ∧
  (∀ w : Report, pack (lane w 0) (lane w 1) (lane w 2) (lane w 3) = w)

/-! ## The step -/

/-- A step with a line to serve runs the operation the line decodes to, with that line served: how the model presents the
atomic steps of R253 and R254 (log entry 1). -/
def Obligations.StepRunsTheDecodedLine : Prop :=
  ∀ (s : State) (l : Line) (rest : List Line) (i : Instr), s.script = l :: rest → decodeLine blockConfig l = .ok i →
    step s = exec i { s with script := rest }

/-- With no line left a step takes the internal step that is enabled, and nothing happens when none is: the model's
own convention (log entries 1 and 2) over the enabling conditions of R253. -/
def Obligations.StepWithNoLineTakesTheInternalStep : Prop :=
  ∀ s : State, s.script = [] →
    (s.sphase = .stalled → s.relayFull = false → step s = exec .retryPush s) ∧
    (s.relayFull = true → step s = exec .drain s) ∧
    (s.sphase = .idle → s.relayFull = false → step s = .next s)

/-- No operation has a failure result, and there is no fault (R250). -/
def Obligations.EveryOperationCompletes : Prop :=
  (∀ (i : Instr) (s : State), ∃ t, exec i s = .next t) ∧ IsEmpty Fault

/-- With no line left, a stalled push into a full relay completes within two steps and the relay is empty after three,
and the machine then rests: the fairness of R259 and R264 as the model realises it (log entry 2). -/
def Obligations.StalledPushCompletesWithinThreeSteps : Prop :=
  ∀ s : State, s.script = [] → s.sphase = .stalled → s.relayFull = true →
    ∃ a b d, step s = .next a ∧ step a = .next b ∧ step b = .next d ∧ step d = .next d ∧
      a.relayFull = false ∧ a.sphase = .stalled ∧
      b.sphase = .idle ∧ b.relayFull = true ∧ b.relayData = s.hold ∧
      d.sphase = .idle ∧ d.relayFull = false

/-! ## The sampler -/

/-- A tick of an idle Scanner with a switch pressed only ORs the sample into the accumulator (R123); with nothing
pressed and nothing accumulated it changes nothing (R127). -/
def Obligations.TicksThatCompleteNoChord : Prop :=
  ∀ (swN : BitVec 8) (s : State),
    (s.sphase = .idle → ~~~swN ≠ 0x00#8 → exec (.scanTick swN) s = .next { s with acc := s.acc ||| ~~~swN }) ∧
    (s.sphase = .idle → ~~~swN = 0x00#8 → s.acc = 0x00#8 → exec (.scanTick swN) s = .next s)

/-- A released tick with a non-zero accumulator completes the chord: the accumulator is cleared and, in the same step,
the decoder branch the chord selects is run (R124, R125, R142). -/
def Obligations.CompletionRunsTheSelectedBranch : Prop :=
  ∀ (swN : BitVec 8) (s : State), s.sphase = .idle → ~~~swN = 0x00#8 → s.acc ≠ 0x00#8 →
    ∃ t, exec (.scanTick swN) s = .next t ∧ exec (chordInstr blockConfig s.acc) { s with acc := 0x00#8 } = .next t ∧
      t.acc = 0x00#8

/-- Any samples with a switch pressed, then one released tick, complete exactly one chord, the OR of the samples; the
order of the samples does not matter (R126, which the spec derives from R123 and R124). -/
def Obligations.SamplesUpToReleaseGiveOneChord : Prop :=
  ∀ (lines : List (BitVec 8)) (s : State), lines ≠ [] → (∀ swN ∈ lines, ~~~swN ≠ 0x00#8) →
    s.sphase = .idle → s.acc = 0x00#8 →
    afterTicks blockConfig lines s = { s with acc := samplesOr lines } ∧
    (∃ t, exec (.scanTick 0xFF#8) (afterTicks blockConfig lines s) = .next t ∧
      exec (chordInstr blockConfig (samplesOr lines)) s = .next t) ∧
    (∀ lines', lines.Perm lines' → afterTicks blockConfig lines' s = afterTicks blockConfig lines s)

/-- While one switch reads pressed at every tick no chord completes: whatever the other switches do, only the
accumulator changes, and it keeps every bit it has seen (R286). -/
def Obligations.StuckSwitchCompletesNoChord : Prop :=
  ∀ (k : Nat) (lines : List (BitVec 8)) (s : State), k < 8 → (∀ swN ∈ lines, swN.getLsbD k = false) →
    s.sphase = .idle → afterTicks blockConfig lines s = { s with acc := s.acc ||| samplesOr lines }

/-- During a stall nothing is sampled, whatever the switches do and for however many ticks (R122, R287: decision D23). -/
def Obligations.StalledTicksAreABlackout : Prop :=
  ∀ s : State, s.sphase = .stalled →
    (∀ swN : BitVec 8, exec (.scanTick swN) s = .next s) ∧ ∀ lines, afterTicks blockConfig lines s = s

/-- The decode cycle, element by element, under every configuration (R125): flags, shift event, then the composer
where `COMPOSE_ON_NONE` or the code lets it run, its pending modifier and its push, into a relay of the capacity 1 that R9
fixes. -/
def Obligations.DecodeCycleWritesItsResults : Prop :=
  ∀ (c : Config) (chord : ChordMask) (s : State) (r : Decoded) (q : Composed), r = decodeChord c chord s.shift →
    q = compose c r.code s.pending →
    (c.composeOnNone = false → r.code = 0x00#8 →
      decodeCycle c chord s = { s with shift := r.shift, shiftEvt := s.shiftEvt || r.evt }) ∧
    (c.composeOnNone = true ∨ r.code ≠ 0x00#8 →
      (q.report = none →
        decodeCycle c chord s = { s with shift := r.shift, shiftEvt := s.shiftEvt || r.evt, pending := q.pending }) ∧
      (∀ w, c.relayCap = 1 → q.report = some w →
        decodeCycle c chord s =
          pushedState w { s with shift := r.shift, shiftEvt := s.shiftEvt || r.evt, pending := q.pending }))

/-! ## The decoder -/

/-- The character chord: EShift, then NumLock, then Caps (uppercased), then plain; only the selected tier's flag
changes, and only its Transient form (R147, with R143, R144, R146; the spec's decisions D7 and D8). -/
def Obligations.CharChordCascades : Prop :=
  ∀ (f : Fset) (s : State),
    (s.shift.esh = .transient →
      ComposesAs (.decChar f) s (blockConfig.rom .e f) { s with shift := { s.shift with esh := .off } }) ∧
    (s.shift.esh = .off → s.shift.num = .transient →
      ComposesAs (.decChar f) s (blockConfig.rom .num f) { s with shift := { s.shift with num := .off } }) ∧
    (s.shift.esh = .off → s.shift.num = .locked → ComposesAs (.decChar f) s (blockConfig.rom .num f) s) ∧
    (s.shift.esh = .off → s.shift.num = .off → s.shift.caps = .transient →
      ComposesAs (.decChar f) s (upper (blockConfig.rom .caps f)) { s with shift := { s.shift with caps := .off } }) ∧
    (s.shift.esh = .off → s.shift.num = .off → s.shift.caps = .locked →
      ComposesAs (.decChar f) s (upper (blockConfig.rom .caps f)) s) ∧
    (s.shift.esh = .off → s.shift.num = .off → s.shift.caps = .off →
      ComposesAs (.decChar f) s (blockConfig.rom .plain f) s)

/-- The thumb chord, with Thumb alone (`F = 0`): the same cascade over the thumb family (R148, with R143, R144, R146;
the spec's decisions D7, D8 and D10). -/
def Obligations.ThumbChordCascades : Prop :=
  ∀ (f : Fset) (s : State),
    (s.shift.esh = .transient →
      ComposesAs (.decThumb f) s (blockConfig.rom .eThumb f) { s with shift := { s.shift with esh := .off } }) ∧
    (s.shift.esh = .off → s.shift.num = .transient →
      ComposesAs (.decThumb f) s (blockConfig.rom .numThumb f) { s with shift := { s.shift with num := .off } }) ∧
    (s.shift.esh = .off → s.shift.num = .locked → ComposesAs (.decThumb f) s (blockConfig.rom .numThumb f) s) ∧
    (s.shift.esh = .off → s.shift.num = .off → s.shift.caps = .transient →
      ComposesAs (.decThumb f) s (upper (blockConfig.rom .capsThumb f))
        { s with shift := { s.shift with caps := .off } }) ∧
    (s.shift.esh = .off → s.shift.num = .off → s.shift.caps = .locked →
      ComposesAs (.decThumb f) s (upper (blockConfig.rom .capsThumb f)) s) ∧
    (s.shift.esh = .off → s.shift.num = .off → s.shift.caps = .off →
      ComposesAs (.decThumb f) s (blockConfig.rom .thumb f) s)

/-- The Num chord: the countermand table with EShift consumed, else the number table with no flag read or written
(R149). -/
def Obligations.NumChordOverridesTheCascade : Prop :=
  ∀ (f : Fset) (s : State),
    (s.shift.esh = .transient →
      ComposesAs (.decNum f) s (blockConfig.rom .ctm f) { s with shift := { s.shift with esh := .off } }) ∧
    (s.shift.esh = .off → ComposesAs (.decNum f) s (blockConfig.rom .num f) s)

/-- The command and countermand chords read their tables as they stand and leave every flag (R151, R155: the spec's
decision D11). -/
def Obligations.CommandAndCountermandLeaveTheFlags : Prop :=
  ∀ (f : Fset) (s : State),
    ComposesAs (.decCommand f) s (blockConfig.rom .cmd f) s ∧ ComposesAs (.decCountermand f) s (blockConfig.rom .ctm f) s

/-- Caps alone: Off, Transient, Locked, Off; the shift event is recorded; no code, so the cycle clears the pending
modifier and forwards nothing (R150, R157). -/
def Obligations.CapsAloneTogglesCaps : Prop :=
  ∀ (s : State) (next : ShiftFlag),
    (s.shift.caps = .off ∧ next = .transient) ∨ (s.shift.caps = .transient ∧ next = .locked) ∨
      (s.shift.caps = .locked ∧ next = .off) →
    exec .decCapsToggle s =
      .next { s with shift := { s.shift with caps := next }, shiftEvt := true, pending := .none }

/-- Thumb plus Num alone: the same toggle on NumLock, with no shift event (R152, R157). -/
def Obligations.ThumbNumTogglesNumLock : Prop :=
  ∀ (s : State) (next : ShiftFlag),
    (s.shift.num = .off ∧ next = .transient) ∨ (s.shift.num = .transient ∧ next = .locked) ∨
      (s.shift.num = .locked ∧ next = .off) →
    exec .decNumlockToggle s = .next { s with shift := { s.shift with num := next }, pending := .none }

/-- Thumb plus Caps alone clears all three flags (R153); Num plus Caps alone sets EShift (R154); a no-op mask changes
no flag (R156). None yields a code, so the cycle clears the pending modifier. -/
def Obligations.GesturesWithoutACode : Prop :=
  ∀ s : State,
    exec .decPanicClear s = .next { s with shift := ⟨.off, .off, .off⟩, pending := .none } ∧
    exec .decEshiftSet s = .next { s with shift := { s.shift with esh := .transient }, pending := .none } ∧
    ∀ mask, exec (.decNop mask) s = .next { s with pending := .none }

/-- The EShift single-shot law: with EShift Transient, exactly the character, thumb and Num chords and the panic clear
clear it, whatever code they return (R161, which the spec derives from R143, R149 and R153). -/
def Obligations.EShiftIsSingleShot : Prop :=
  ∀ (mask : ChordMask) (s : State), s.shift.esh = .transient →
    ∃ t, exec (chordInstr blockConfig mask) s = .next t ∧
      (t.shift.esh = .off ↔
        (∃ f, chordInstr blockConfig mask = .decChar f) ∨ (∃ f, chordInstr blockConfig mask = .decThumb f) ∨
        (∃ f, chordInstr blockConfig mask = .decNum f) ∨ chordInstr blockConfig mask = .decPanicClear)

/-- `upper` subtracts `0x20` from the 26 small letters and leaves every other code (R145: the spec's decision D9). -/
def Obligations.UpperMapsSmallLettersOnly : Prop :=
  ∀ code : OutputCode,
    (0x61 ≤ code.toNat → code.toNat ≤ 0x7A → (upper code).toNat = code.toNat - 0x20) ∧
    (code.toNat < 0x61 ∨ 0x7A < code.toNat → upper code = code)

/-- No operation outside the Decoder writes a flag: only a decoder branch, a tick that completes a chord, or a reset
(R44). -/
def Obligations.OnlyTheDecoderWritesFlags : Prop :=
  ∀ (i : Instr) (s t : State), exec i s = .next t → t.shift ≠ s.shift →
    opOwner i = .decoder ∨ (∃ swN, i = .scanTick swN ∧ completedChord swN s ≠ none) ∨ i = .reset

/-- `shift_evt` is set by the Caps-alone chord and by nothing else, and only reset clears it (R39: the spec's decision
D12). -/
def Obligations.ShiftEventIsStickyAndFromCapsAlone : Prop :=
  (∀ (i : Instr) (s : State), i ≠ .reset →
    ∃ t, exec i s = .next t ∧
      (t.shiftEvt = true ↔
        s.shiftEvt = true ∨ i = .decCapsToggle ∨ ∃ swN, i = .scanTick swN ∧ completedChord swN s = some 0x20#8)) ∧
  (∀ s : State, ∃ t, exec .reset s = .next t ∧ t.shiftEvt = false)

/-- Chord `0x0C` with every flag Off and nothing pending decodes, under the default maps, to 'a' and forwards
`0x00000004` into the relay (R61, R125, R147, R192, R220). -/
def Obligations.ChordCGivesTheLetterA : Prop :=
  ∀ s : State, s.sphase = .idle → s.acc = 0x0C#8 → s.shift = ⟨.off, .off, .off⟩ → s.pending = .none →
    s.relayFull = false →
    exec (.scanTick 0xFF#8) s = .next { s with acc := 0x00#8, relayData := 0x00000004#32, relayFull := true }

/-! ## The composer -/

/-- The operation a code selects is the composer applied to that code: its results are written and its report pushed
(R125, R180, R181). -/
def Obligations.SelectedCodeRunsTheComposer : Prop :=
  ∀ (code : OutputCode) (s : State),
    ∃ t, exec (codeInstr blockConfig code) s = .next t ∧
      ((compose blockConfig code s.pending).report = none →
        t = { s with pending := (compose blockConfig code s.pending).pending }) ∧
      (∀ w, (compose blockConfig code s.pending).report = some w →
        t = pushedState w { s with pending := (compose blockConfig code s.pending).pending })

/-- NONE and every unmapped code forward nothing and clear the pending modifier (R185, R195). -/
def Obligations.CodesWithoutAKeyClearPending : Prop :=
  ∀ s : State,
    exec .compNone s = .next { s with pending := .none } ∧
    ∀ code, exec (.compUnmapped code) s = .next { s with pending := .none }

/-- A start code latches its modifier when nothing is pending and is otherwise absorbed, clearing it; it forwards
nothing (R186, R187, R188, R189; DROP is the spec's decision D19). -/
def Obligations.StartCodesLatchOrAreDropped : Prop :=
  ∀ s : State,
    (s.pending = .none →
      exec .compCtrlStart s = .next { s with pending := .ctrl } ∧
      exec .compAltStart s = .next { s with pending := .alt } ∧
      exec .compAltctrlStart s = .next { s with pending := .altctrl } ∧
      exec .compGuiStart s = .next { s with pending := .gui }) ∧
    (s.pending ≠ .none →
      exec .compCtrlStart s = .next { s with pending := .none } ∧
      exec .compAltStart s = .next { s with pending := .none } ∧
      exec .compAltctrlStart s = .next { s with pending := .none } ∧
      exec .compGuiStart s = .next { s with pending := .none })

/-- `START_AFTER_PENDING`, under every configuration: a start code that finds a modifier pending is absorbed under
`DROP` and latched anew under `RELATCH` (R180). -/
def Obligations.StartCodeUnderEitherPolicy : Prop :=
  ∀ (c : Config) (code : OutputCode) (x p : Pending), classify c code = .start x →
    (p = .none → compose c code p = ⟨none, x⟩) ∧
    (p ≠ .none → c.startAfterPending = .drop → compose c code p = ⟨none, .none⟩) ∧
    (p ≠ .none → c.startAfterPending = .relatch → compose c code p = ⟨none, x⟩)

/-- The GUI key and the two currency codes forward their key with its own modifier bit, and the markers of a pending
modifier (R190, R193, R194). -/
def Obligations.GuiAndCurrencyKeysAreForwarded : Prop :=
  ∀ s : State,
    ForwardsKey .compGuiKey 0xE3#8 0x08#8 s ∧ ForwardsKey .compExt1 0x21#8 0x40#8 s ∧
    ForwardsKey .compExt2 0x20#8 0x02#8 s

/-- Every assigned control key forwards its HID keycode without a modifier bit of its own (R191, R196). -/
def Obligations.ControlKeysAreForwarded : Prop :=
  ∀ (s : State) (code : OutputCode) (kc : Keycode),
    (code, kc) ∈ [(0x06#8, 0x49#8), (0x07#8, 0x4C#8), (0x08#8, 0x2A#8), (0x09#8, 0x2B#8), (0x0B#8, 0x52#8),
      (0x0C#8, 0x51#8), (0x0D#8, 0x28#8), (0x0E#8, 0x50#8), (0x0F#8, 0x4F#8), (0x10#8, 0x4B#8), (0x11#8, 0x4E#8)] ∨
    (0x12 ≤ code.toNat ∧ code.toNat ≤ 0x1A ∧ kc = code + 0x28#8) ∨ (code = 0x1B#8 ∧ kc = 0x29#8) ∨
    (0x1C ≤ code.toNat ∧ code.toNat ≤ 0x1E ∧ kc = code + 0x27#8) →
    codeInstr blockConfig code = .compCtrlkey code ∧ ForwardsKey (.compCtrlkey code) kc 0x00#8 s

/-- Every printable code forwards its key of the ASCII map, with the Shift bit where the map marks it (R192). -/
def Obligations.PrintableCodesAreForwarded : Prop :=
  ∀ (s : State) (code : OutputCode), 0x20 ≤ code.toNat → code.toNat ≤ 0x7E →
    codeInstr blockConfig code = .compPrintable code ∧
    ForwardsKey (.compPrintable code) (blockConfig.asciiKeymap code).kc
      (if (blockConfig.asciiKeymap code).shift = true then 0x02#8 else 0x00#8) s

/-- The letters and digits of the ASCII map: 'a' to 'z' and 'A' to 'Z' on `0x04..0x1D`, the capitals shifted; '1' to
'9' on `0x1E..0x26` and '0' on `0x27` (R197). -/
def Obligations.AsciiMapOfLettersAndDigits : Prop :=
  (∀ k : Nat, k < 26 →
    blockConfig.asciiKeymap (BitVec.ofNat 8 (0x61 + k)) = ⟨BitVec.ofNat 8 (0x04 + k), false⟩ ∧
    blockConfig.asciiKeymap (BitVec.ofNat 8 (0x41 + k)) = ⟨BitVec.ofNat 8 (0x04 + k), true⟩) ∧
  (∀ k : Nat, k < 9 → blockConfig.asciiKeymap (BitVec.ofNat 8 (0x31 + k)) = ⟨BitVec.ofNat 8 (0x1E + k), false⟩) ∧
  blockConfig.asciiKeymap 0x30#8 = ⟨0x27#8, false⟩

/-- A report is forwarded exactly when the cycle's own keycode is non-zero, and that keycode is its lane 0 in a
report of the width 32 that R9 fixes, under every configuration (R184: the spec's decision D21). -/
def Obligations.ForwardedExactlyWithAnOwnKeycode : Prop :=
  ∀ (c : Config) (code : OutputCode) (p : Pending),
    ((compose c code p).report ≠ none ↔ ∃ kc m, classify c code = .key kc m ∧ kc ≠ 0x00#8) ∧
    (∀ w, c.reportW = 32 → (compose c code p).report = some w →
      ∃ kc m, classify c code = .key kc m ∧ lane w 0 = kc ∧ lane w 0 ≠ 0x00#8 ∧ w ≠ 0x00000000#32)

/-- A modifier is pending after a cycle only where that cycle's code was a start code that found none pending, or any
start code under `RELATCH`, under every configuration (R198, which the spec derives from R180). -/
def Obligations.PendingComesFromAStartCode : Prop :=
  ∀ (c : Config) (code : OutputCode) (p : Pending), (compose c code p).pending ≠ .none →
    (∃ x, classify c code = .start x ∧ (compose c code p).pending = x) ∧ (p = .none ∨ c.startAfterPending = .relatch)

/-- A modifier pending before a chord is no longer pending after it: it is held across exactly one decode cycle (R198,
which the spec derives from R180, and R289; the decided COMPOSE_ON_NONE and START_AFTER_PENDING, D18 and D19). -/
def Obligations.PendingEndsWithTheNextChord : Prop :=
  ∀ (mask : ChordMask) (s : State), s.pending ≠ .none →
    ∃ t, exec (chordInstr blockConfig mask) s = .next t ∧ t.pending = .none

/-- A forwarded report holds one, two or three keycodes as the pending modifier says, and at most three modifier bits,
under the default maps (R199, which the spec derives from R182 and R183). -/
def Obligations.ReportsHoldOneToThreeKeycodes : Prop :=
  ∀ (code : OutputCode) (p : Pending) (w : Report), (compose blockConfig code p).report = some w →
    (p = .none → [lane w 0, lane w 1, lane w 2].countP (fun k => k ≠ 0x00#8) = 1) ∧
    (p = .ctrl ∨ p = .alt ∨ p = .gui → [lane w 0, lane w 1, lane w 2].countP (fun k => k ≠ 0x00#8) = 2) ∧
    (p = .altctrl → [lane w 0, lane w 1, lane w 2].countP (fun k => k ≠ 0x00#8) = 3) ∧
    (List.range 8).countP (fun k => (lane w 3).getLsbD k) ≤ 3

/-- Modifier chaining: a Ctrl-start code, then any printable code, forwards one report with the key in lane 0, the
Ctrl keycode in lane 1 and the Ctrl bit in lane 3, and nothing stays pending (R183, R186, R192). -/
def Obligations.CtrlChainForwardsOneReport : Prop :=
  ∀ (s : State) (code : OutputCode), s.pending = .none → s.relayFull = false → 0x20 ≤ code.toNat → code.toNat ≤ 0x7E →
    ∃ t u, exec .compCtrlStart s = .next t ∧ exec (.compPrintable code) t = .next u ∧
      t = { s with pending := .ctrl } ∧ u = { s with relayFull := true, relayData := u.relayData } ∧
      lane u.relayData 0 = (blockConfig.asciiKeymap code).kc ∧ lane u.relayData 1 = 0xE0#8 ∧
      lane u.relayData 2 = 0x00#8 ∧
      lane u.relayData 3 = (if (blockConfig.asciiKeymap code).shift = true then 0x03#8 else 0x01#8)

/-! ## The relay and the queue -/

/-- A push into an empty relay fills it; a push to a full relay keeps the relay's word and stalls the Scanner with the
new one (R220, R221). -/
def Obligations.PushFillsTheRelayOrStalls : Prop :=
  ∀ (w : Report) (s : State),
    (s.relayFull = false → exec (.push w) s = .next { s with relayData := w, relayFull := true }) ∧
    (s.relayFull = true → exec (.push w) s = .next { s with hold := w, sphase := .stalled })

/-- An enabled retry moves the held word into the relay and ends the stall (R222). -/
def Obligations.RetryCompletesTheStalledPush : Prop :=
  ∀ s : State, s.sphase = .stalled → s.relayFull = false →
    exec .retryPush s = .next { s with relayData := s.hold, relayFull := true, sphase := .idle }

/-- An enabled drain empties the relay: with room, its word becomes the youngest entry, in the slot after the window;
with the queue full the word is dropped and the queue unchanged (R223 and R224, the spec's decisions D24 and D25, and
R225; log entry 17). -/
def Obligations.DrainEnqueuesOrDrops : Prop :=
  ∀ s : State, s.relayFull = true →
    (s.qCount < 8 →
      exec .drain s = .next { s with
        relayFull := false, qMem := s.qMem.set ((s.qHead + s.qCount) % 8) s.relayData, qCount := s.qCount + 1 }) ∧
    (8 ≤ s.qCount → exec .drain s = .next { s with relayFull := false })

/-- A pop returns and removes the oldest entry; on an empty queue it returns the sentinel and changes nothing else
(R226, R227). -/
def Obligations.PopReturnsTheOldestOrTheSentinel : Prop :=
  ∀ s : State,
    (∀ w, 0 < s.qCount → s.qMem[s.qHead]? = some w →
      exec .pop s = .next { s with popData := w, qHead := (s.qHead + 1) % 8, qCount := s.qCount - 1 }) ∧
    (s.qCount = 0 → exec .pop s = .next { s with popData := 0x00000000#32 })

/-- A retry or a drain that is not enabled changes nothing: the model's own convention for a step R222 or R223 does
not enable (log entry 3). -/
def Obligations.StepsNotEnabledChangeNothing : Prop :=
  ∀ s : State,
    (s.sphase = .idle ∨ s.relayFull = true → exec .retryPush s = .next s) ∧
    (s.relayFull = false → exec .drain s = .next s)

/-- The ring buffer refines a bounded FIFO list, for every capacity: an enqueue appends where there is room and is
dropped where there is none, a pop returns and removes the head, or returns the sentinel (R42, R224 to R227). -/
def Obligations.RingBufferRefinesABoundedFifo : Prop :=
  ∀ (c : Config) (s : State), s.QueueShape c →
    (∀ w, liveEntries c (enqueue c w s) =
      if (liveEntries c s).length < c.queueCap then liveEntries c s ++ [w] else liveEntries c s) ∧
    liveEntries c (dequeue c s) = (liveEntries c s).tail ∧
    (dequeue c s).popData = (liveEntries c s).headD 0x00000000#32 ∧
    (∀ w, (enqueue c w s).QueueShape c) ∧ (dequeue c s).QueueShape c

/-- The overflow law, for every capacity: one word more than the capacity into an empty queue, then pops, return all
but the last word in order and then the sentinel (R229 at capacity 8, which the spec derives from R224 to R226). -/
def Obligations.OverflowDropsTheNewest : Prop :=
  ∀ (c : Config) (s : State) (ws : List Report), s.QueueShape c → s.qCount = 0 → ws.length = c.queueCap + 1 →
    popsReturn c (c.queueCap + 1) (enqueueAll c ws s) = ws.take c.queueCap ++ [0x00000000#32]

/-- A drain and a pop that are both pending: with the queue full, drain first drops the relay word and pop first keeps
it; with the queue empty, drain first returns the relay word and pop first the sentinel; in between both orders
end in the same state (R257, which the spec derives from R223, R225 and R226). -/
def Obligations.DrainAndPopDifferOnlyAtTheBoundaries : Prop :=
  ∀ s : State, s.QueueShape blockConfig → s.relayFull = true →
    ∃ a b d e, exec .drain s = .next a ∧ exec .pop a = .next b ∧ exec .pop s = .next d ∧ exec .drain d = .next e ∧
      (s.qCount = 8 →
        b.popData = (liveEntries blockConfig s).headD 0x00000000#32 ∧ e.popData = b.popData ∧
        liveEntries blockConfig b = (liveEntries blockConfig s).tail ∧
        liveEntries blockConfig e = (liveEntries blockConfig s).tail ++ [s.relayData]) ∧
      (s.qCount = 0 →
        b.popData = s.relayData ∧ e.popData = 0x00000000#32 ∧
        liveEntries blockConfig b = [] ∧ liveEntries blockConfig e = [s.relayData]) ∧
      (0 < s.qCount → s.qCount < 8 → b = e)

/-- End-to-end order: over any run of the block, the reports returned, followed by those still in flight, are a
subsequence of those in flight at the start followed by those forwarded, in order (R73, which the spec derives
from R72 and R224 to R226; also across resets). -/
def Obligations.ReportsAreReturnedInOrder : Prop :=
  ∀ (n : Nat) (s : State), s.QueueShape blockConfig → agentScript s →
    ((runLog n s).popped ++ inFlight blockConfig (runLog n s).final).Sublist
      (inFlight blockConfig s ++ (runLog n s).forwarded)

/-- Nothing is lost or duplicated but at a full queue: over any run of the block without a reset, the reports
returned, in flight at the end and dropped at a full queue are together exactly those in flight at the start and
forwarded (R72, R225, and R228, which the spec derives from R220 to R223). -/
def Obligations.OnlyAFullQueueLosesReports : Prop :=
  ∀ (n : Nat) (s : State), s.QueueShape blockConfig → agentScript s → noResetLine s →
    ((runLog n s).popped ++ inFlight blockConfig (runLog n s).final ++ (runLog n s).dropped).Perm
      (inFlight blockConfig s ++ (runLog n s).forwarded)

/-- Ownership: a Scanner step leaves the queue and `pop_data` and neither clears the relay nor overwrites its word; a
Reporter step leaves the Scanner's state and the relay word and never sets the relay (R230). -/
def Obligations.AgentsWriteOnlyTheirOwnState : Prop :=
  ∀ (i : Instr) (s : State), i ≠ .reset → ∃ t, exec i s = .next t ∧
    (opOwner i ≠ .reporter →
      t.qMem = s.qMem ∧ t.qHead = s.qHead ∧ t.qCount = s.qCount ∧ t.popData = s.popData ∧
      (s.relayFull = true → t.relayFull = true ∧ t.relayData = s.relayData)) ∧
    (opOwner i = .reporter →
      t.acc = s.acc ∧ t.shift = s.shift ∧ t.shiftEvt = s.shiftEvt ∧ t.pending = s.pending ∧ t.sphase = s.sphase ∧
      t.hold = s.hold ∧ t.relayData = s.relayData ∧ (s.relayFull = false → t.relayFull = false)) ∧
    t.script = s.script ∧ t.freeCount = s.freeCount

/-! ## Reset and invariants -/

/-- `RESET` from any state: every element the spec gives a reset value has it (R280: the spec's decision D5); the
queue storage keeps its eight slots, and the Host's lines stay (the model's own field). -/
def Obligations.ResetPutsEveryElementAtItsValue : Prop :=
  ∀ s : State, ∃ t, exec .reset s = .next t ∧
    t.acc = 0x00#8 ∧ t.shift = ⟨.off, .off, .off⟩ ∧ t.shiftEvt = false ∧ t.pending = .none ∧ t.sphase = .idle ∧
    t.relayFull = false ∧ t.qHead = 0 ∧ t.qCount = 0 ∧ t.popData = 0x00000000#32 ∧
    t.qMem.length = 8 ∧ t.script = s.script

/-- The state right after power-on has the spec's reset values (R280). -/
def Obligations.PowerOnStateIsTheResetState : Prop :=
  State.reset.acc = 0x00#8 ∧ State.reset.shift = ⟨.off, .off, .off⟩ ∧ State.reset.shiftEvt = false ∧
  State.reset.pending = .none ∧ State.reset.sphase = .idle ∧ State.reset.relayFull = false ∧ State.reset.qHead = 0 ∧
  State.reset.qCount = 0 ∧ State.reset.popData = 0x00000000#32 ∧ State.reset.qMem.length = 8

/-- The invariant of R46 (which the spec derives from R124, R184, R224 and R226) is kept by every step, from every
state that has it, under every well-formed configuration (R9) and so of the machine: the queue's shape, and a key in
lane 0 of every live entry, of the relay word and of the held word. -/
def Obligations.StepKeepsTheInvariant : Prop :=
  (∀ c : Config, c.WF → ∀ s t : State, s.WF c → stepAt c s = .next t → t.WF c) ∧
  ∀ s t : State, s.WF blockConfig → step s = .next t → t.WF blockConfig

/-- The reset state has the invariant of R46, under every well-formed configuration. -/
def Obligations.ResetStateHasTheInvariant : Prop :=
  (∀ c : Config, c.WF → (State.resetAt c).WF c) ∧ State.reset.WF blockConfig

/-- No observation depends on the words the spec leaves unspecified: two states that agree on everything else step
alike, and to states that agree again, outputs included (R280). -/
def Obligations.UnspecifiedWordsAreUnobservable : Prop :=
  ∀ s t : State, s.QueueShape blockConfig → t.QueueShape blockConfig → Agree blockConfig s t →
    (∃ s' t', step s = .next s' ∧ step t = .next t' ∧ Agree blockConfig s' t' ∧
      s'.popData = t'.popData ∧ s'.shiftEvt = t'.shiftEvt) ∨
    (∃ r, step s = .refused r ∧ step t = .refused r)
end

