-- ==== Sys2Proof/Laws/Configured.lean ====
section
/-! SUPPORT. The machine behind the host's interface is the configured one at `blockConfig` (`00_scope.md` R9). -/

namespace Sys2Proof.Machine

open Sys2Proof

theorem exec_eq_execAt (i : Instr) (s : State) : exec i s = .next (execAt blockConfig i s) := by cases i <;> rfl

theorem step_eq_stepAt (s : State) : step s = stepAt blockConfig s := by
  unfold step stepAt
  cases nextLine s with
  | none => cases internalStep blockConfig s <;> simp only [exec_eq_execAt]
  | some p =>
    obtain ⟨line, s1⟩ := p
    cases h : decodeLine blockConfig line <;> simp only [h, exec_eq_execAt]

theorem reset_eq_resetAt : State.reset = State.resetAt blockConfig := rfl

end Sys2Proof.Machine
end

