-- ==== Sys2Proof/Laws/State.lean ====
section
/-! SUPPORT. One lemma per field per update of the state, so that no proof unfolds a record update. -/

namespace Sys2Proof.Machine

open Sys2Proof

variable (s : State)

@[simp] theorem withAcc_acc (a : BitVec 8) : (s.withAcc a).acc = a := rfl
@[simp] theorem withAcc_shift (a : BitVec 8) : (s.withAcc a).shift = s.shift := rfl
@[simp] theorem withAcc_shiftEvt (a : BitVec 8) : (s.withAcc a).shiftEvt = s.shiftEvt := rfl
@[simp] theorem withAcc_pending (a : BitVec 8) : (s.withAcc a).pending = s.pending := rfl
@[simp] theorem withAcc_sphase (a : BitVec 8) : (s.withAcc a).sphase = s.sphase := rfl
@[simp] theorem withAcc_hold (a : BitVec 8) : (s.withAcc a).hold = s.hold := rfl
@[simp] theorem withAcc_relayFull (a : BitVec 8) : (s.withAcc a).relayFull = s.relayFull := rfl
@[simp] theorem withAcc_relayData (a : BitVec 8) : (s.withAcc a).relayData = s.relayData := rfl
@[simp] theorem withAcc_qMem (a : BitVec 8) : (s.withAcc a).qMem = s.qMem := rfl
@[simp] theorem withAcc_qHead (a : BitVec 8) : (s.withAcc a).qHead = s.qHead := rfl
@[simp] theorem withAcc_qCount (a : BitVec 8) : (s.withAcc a).qCount = s.qCount := rfl
@[simp] theorem withAcc_popData (a : BitVec 8) : (s.withAcc a).popData = s.popData := rfl
@[simp] theorem withAcc_script (a : BitVec 8) : (s.withAcc a).script = s.script := rfl
@[simp] theorem withAcc_freeCount (a : BitVec 8) : (s.withAcc a).freeCount = s.freeCount := rfl

@[simp] theorem withShift_acc (v : ShiftState) : (s.withShift v).acc = s.acc := rfl
@[simp] theorem withShift_shift (v : ShiftState) : (s.withShift v).shift = v := rfl
@[simp] theorem withShift_shiftEvt (v : ShiftState) : (s.withShift v).shiftEvt = s.shiftEvt := rfl
@[simp] theorem withShift_pending (v : ShiftState) : (s.withShift v).pending = s.pending := rfl
@[simp] theorem withShift_sphase (v : ShiftState) : (s.withShift v).sphase = s.sphase := rfl
@[simp] theorem withShift_hold (v : ShiftState) : (s.withShift v).hold = s.hold := rfl
@[simp] theorem withShift_relayFull (v : ShiftState) : (s.withShift v).relayFull = s.relayFull := rfl
@[simp] theorem withShift_relayData (v : ShiftState) : (s.withShift v).relayData = s.relayData := rfl
@[simp] theorem withShift_qMem (v : ShiftState) : (s.withShift v).qMem = s.qMem := rfl
@[simp] theorem withShift_qHead (v : ShiftState) : (s.withShift v).qHead = s.qHead := rfl
@[simp] theorem withShift_qCount (v : ShiftState) : (s.withShift v).qCount = s.qCount := rfl
@[simp] theorem withShift_popData (v : ShiftState) : (s.withShift v).popData = s.popData := rfl
@[simp] theorem withShift_script (v : ShiftState) : (s.withShift v).script = s.script := rfl
@[simp] theorem withShift_freeCount (v : ShiftState) : (s.withShift v).freeCount = s.freeCount := rfl

@[simp] theorem withShiftEvt_acc (b : Bool) : (s.withShiftEvt b).acc = s.acc := rfl
@[simp] theorem withShiftEvt_shift (b : Bool) : (s.withShiftEvt b).shift = s.shift := rfl
@[simp] theorem withShiftEvt_shiftEvt (b : Bool) : (s.withShiftEvt b).shiftEvt = b := rfl
@[simp] theorem withShiftEvt_pending (b : Bool) : (s.withShiftEvt b).pending = s.pending := rfl
@[simp] theorem withShiftEvt_sphase (b : Bool) : (s.withShiftEvt b).sphase = s.sphase := rfl
@[simp] theorem withShiftEvt_hold (b : Bool) : (s.withShiftEvt b).hold = s.hold := rfl
@[simp] theorem withShiftEvt_relayFull (b : Bool) : (s.withShiftEvt b).relayFull = s.relayFull := rfl
@[simp] theorem withShiftEvt_relayData (b : Bool) : (s.withShiftEvt b).relayData = s.relayData := rfl
@[simp] theorem withShiftEvt_qMem (b : Bool) : (s.withShiftEvt b).qMem = s.qMem := rfl
@[simp] theorem withShiftEvt_qHead (b : Bool) : (s.withShiftEvt b).qHead = s.qHead := rfl
@[simp] theorem withShiftEvt_qCount (b : Bool) : (s.withShiftEvt b).qCount = s.qCount := rfl
@[simp] theorem withShiftEvt_popData (b : Bool) : (s.withShiftEvt b).popData = s.popData := rfl
@[simp] theorem withShiftEvt_script (b : Bool) : (s.withShiftEvt b).script = s.script := rfl
@[simp] theorem withShiftEvt_freeCount (b : Bool) : (s.withShiftEvt b).freeCount = s.freeCount := rfl

@[simp] theorem withPending_acc (p : Pending) : (s.withPending p).acc = s.acc := rfl
@[simp] theorem withPending_shift (p : Pending) : (s.withPending p).shift = s.shift := rfl
@[simp] theorem withPending_shiftEvt (p : Pending) : (s.withPending p).shiftEvt = s.shiftEvt := rfl
@[simp] theorem withPending_pending (p : Pending) : (s.withPending p).pending = p := rfl
@[simp] theorem withPending_sphase (p : Pending) : (s.withPending p).sphase = s.sphase := rfl
@[simp] theorem withPending_hold (p : Pending) : (s.withPending p).hold = s.hold := rfl
@[simp] theorem withPending_relayFull (p : Pending) : (s.withPending p).relayFull = s.relayFull := rfl
@[simp] theorem withPending_relayData (p : Pending) : (s.withPending p).relayData = s.relayData := rfl
@[simp] theorem withPending_qMem (p : Pending) : (s.withPending p).qMem = s.qMem := rfl
@[simp] theorem withPending_qHead (p : Pending) : (s.withPending p).qHead = s.qHead := rfl
@[simp] theorem withPending_qCount (p : Pending) : (s.withPending p).qCount = s.qCount := rfl
@[simp] theorem withPending_popData (p : Pending) : (s.withPending p).popData = s.popData := rfl
@[simp] theorem withPending_script (p : Pending) : (s.withPending p).script = s.script := rfl
@[simp] theorem withPending_freeCount (p : Pending) : (s.withPending p).freeCount = s.freeCount := rfl

@[simp] theorem stalledWith_acc (w : Report) : (s.stalledWith w).acc = s.acc := rfl
@[simp] theorem stalledWith_shift (w : Report) : (s.stalledWith w).shift = s.shift := rfl
@[simp] theorem stalledWith_shiftEvt (w : Report) : (s.stalledWith w).shiftEvt = s.shiftEvt := rfl
@[simp] theorem stalledWith_pending (w : Report) : (s.stalledWith w).pending = s.pending := rfl
@[simp] theorem stalledWith_sphase (w : Report) : (s.stalledWith w).sphase = .stalled := rfl
@[simp] theorem stalledWith_hold (w : Report) : (s.stalledWith w).hold = w := rfl
@[simp] theorem stalledWith_relayFull (w : Report) : (s.stalledWith w).relayFull = s.relayFull := rfl
@[simp] theorem stalledWith_relayData (w : Report) : (s.stalledWith w).relayData = s.relayData := rfl
@[simp] theorem stalledWith_qMem (w : Report) : (s.stalledWith w).qMem = s.qMem := rfl
@[simp] theorem stalledWith_qHead (w : Report) : (s.stalledWith w).qHead = s.qHead := rfl
@[simp] theorem stalledWith_qCount (w : Report) : (s.stalledWith w).qCount = s.qCount := rfl
@[simp] theorem stalledWith_popData (w : Report) : (s.stalledWith w).popData = s.popData := rfl
@[simp] theorem stalledWith_script (w : Report) : (s.stalledWith w).script = s.script := rfl
@[simp] theorem stalledWith_freeCount (w : Report) : (s.stalledWith w).freeCount = s.freeCount := rfl

@[simp] theorem resumed_acc : (s.resumed).acc = s.acc := rfl
@[simp] theorem resumed_shift : (s.resumed).shift = s.shift := rfl
@[simp] theorem resumed_shiftEvt : (s.resumed).shiftEvt = s.shiftEvt := rfl
@[simp] theorem resumed_pending : (s.resumed).pending = s.pending := rfl
@[simp] theorem resumed_sphase : (s.resumed).sphase = .idle := rfl
@[simp] theorem resumed_hold : (s.resumed).hold = s.hold := rfl
@[simp] theorem resumed_relayFull : (s.resumed).relayFull = s.relayFull := rfl
@[simp] theorem resumed_relayData : (s.resumed).relayData = s.relayData := rfl
@[simp] theorem resumed_qMem : (s.resumed).qMem = s.qMem := rfl
@[simp] theorem resumed_qHead : (s.resumed).qHead = s.qHead := rfl
@[simp] theorem resumed_qCount : (s.resumed).qCount = s.qCount := rfl
@[simp] theorem resumed_popData : (s.resumed).popData = s.popData := rfl
@[simp] theorem resumed_script : (s.resumed).script = s.script := rfl
@[simp] theorem resumed_freeCount : (s.resumed).freeCount = s.freeCount := rfl

@[simp] theorem relayPut_acc (w : Report) : (s.relayPut w).acc = s.acc := rfl
@[simp] theorem relayPut_shift (w : Report) : (s.relayPut w).shift = s.shift := rfl
@[simp] theorem relayPut_shiftEvt (w : Report) : (s.relayPut w).shiftEvt = s.shiftEvt := rfl
@[simp] theorem relayPut_pending (w : Report) : (s.relayPut w).pending = s.pending := rfl
@[simp] theorem relayPut_sphase (w : Report) : (s.relayPut w).sphase = s.sphase := rfl
@[simp] theorem relayPut_hold (w : Report) : (s.relayPut w).hold = s.hold := rfl
@[simp] theorem relayPut_relayFull (w : Report) : (s.relayPut w).relayFull = true := rfl
@[simp] theorem relayPut_relayData (w : Report) : (s.relayPut w).relayData = w := rfl
@[simp] theorem relayPut_qMem (w : Report) : (s.relayPut w).qMem = s.qMem := rfl
@[simp] theorem relayPut_qHead (w : Report) : (s.relayPut w).qHead = s.qHead := rfl
@[simp] theorem relayPut_qCount (w : Report) : (s.relayPut w).qCount = s.qCount := rfl
@[simp] theorem relayPut_popData (w : Report) : (s.relayPut w).popData = s.popData := rfl
@[simp] theorem relayPut_script (w : Report) : (s.relayPut w).script = s.script := rfl
@[simp] theorem relayPut_freeCount (w : Report) : (s.relayPut w).freeCount = s.freeCount := rfl

@[simp] theorem relayTaken_acc : (s.relayTaken).acc = s.acc := rfl
@[simp] theorem relayTaken_shift : (s.relayTaken).shift = s.shift := rfl
@[simp] theorem relayTaken_shiftEvt : (s.relayTaken).shiftEvt = s.shiftEvt := rfl
@[simp] theorem relayTaken_pending : (s.relayTaken).pending = s.pending := rfl
@[simp] theorem relayTaken_sphase : (s.relayTaken).sphase = s.sphase := rfl
@[simp] theorem relayTaken_hold : (s.relayTaken).hold = s.hold := rfl
@[simp] theorem relayTaken_relayFull : (s.relayTaken).relayFull = false := rfl
@[simp] theorem relayTaken_relayData : (s.relayTaken).relayData = s.relayData := rfl
@[simp] theorem relayTaken_qMem : (s.relayTaken).qMem = s.qMem := rfl
@[simp] theorem relayTaken_qHead : (s.relayTaken).qHead = s.qHead := rfl
@[simp] theorem relayTaken_qCount : (s.relayTaken).qCount = s.qCount := rfl
@[simp] theorem relayTaken_popData : (s.relayTaken).popData = s.popData := rfl
@[simp] theorem relayTaken_script : (s.relayTaken).script = s.script := rfl
@[simp] theorem relayTaken_freeCount : (s.relayTaken).freeCount = s.freeCount := rfl

@[simp] theorem withSlot_acc (i : Nat) (w : Report) : (s.withSlot i w).acc = s.acc := rfl
@[simp] theorem withSlot_shift (i : Nat) (w : Report) : (s.withSlot i w).shift = s.shift := rfl
@[simp] theorem withSlot_shiftEvt (i : Nat) (w : Report) : (s.withSlot i w).shiftEvt = s.shiftEvt := rfl
@[simp] theorem withSlot_pending (i : Nat) (w : Report) : (s.withSlot i w).pending = s.pending := rfl
@[simp] theorem withSlot_sphase (i : Nat) (w : Report) : (s.withSlot i w).sphase = s.sphase := rfl
@[simp] theorem withSlot_hold (i : Nat) (w : Report) : (s.withSlot i w).hold = s.hold := rfl
@[simp] theorem withSlot_relayFull (i : Nat) (w : Report) : (s.withSlot i w).relayFull = s.relayFull := rfl
@[simp] theorem withSlot_relayData (i : Nat) (w : Report) : (s.withSlot i w).relayData = s.relayData := rfl
@[simp] theorem withSlot_qMem (i : Nat) (w : Report) : (s.withSlot i w).qMem = s.qMem.set i w := rfl
@[simp] theorem withSlot_qHead (i : Nat) (w : Report) : (s.withSlot i w).qHead = s.qHead := rfl
@[simp] theorem withSlot_qCount (i : Nat) (w : Report) : (s.withSlot i w).qCount = s.qCount := rfl
@[simp] theorem withSlot_popData (i : Nat) (w : Report) : (s.withSlot i w).popData = s.popData := rfl
@[simp] theorem withSlot_script (i : Nat) (w : Report) : (s.withSlot i w).script = s.script := rfl
@[simp] theorem withSlot_freeCount (i : Nat) (w : Report) : (s.withSlot i w).freeCount = s.freeCount := rfl

@[simp] theorem withWindow_acc (h n : Nat) : (s.withWindow h n).acc = s.acc := rfl
@[simp] theorem withWindow_shift (h n : Nat) : (s.withWindow h n).shift = s.shift := rfl
@[simp] theorem withWindow_shiftEvt (h n : Nat) : (s.withWindow h n).shiftEvt = s.shiftEvt := rfl
@[simp] theorem withWindow_pending (h n : Nat) : (s.withWindow h n).pending = s.pending := rfl
@[simp] theorem withWindow_sphase (h n : Nat) : (s.withWindow h n).sphase = s.sphase := rfl
@[simp] theorem withWindow_hold (h n : Nat) : (s.withWindow h n).hold = s.hold := rfl
@[simp] theorem withWindow_relayFull (h n : Nat) : (s.withWindow h n).relayFull = s.relayFull := rfl
@[simp] theorem withWindow_relayData (h n : Nat) : (s.withWindow h n).relayData = s.relayData := rfl
@[simp] theorem withWindow_qMem (h n : Nat) : (s.withWindow h n).qMem = s.qMem := rfl
@[simp] theorem withWindow_qHead (h n : Nat) : (s.withWindow h n).qHead = h := rfl
@[simp] theorem withWindow_qCount (h n : Nat) : (s.withWindow h n).qCount = n := rfl
@[simp] theorem withWindow_popData (h n : Nat) : (s.withWindow h n).popData = s.popData := rfl
@[simp] theorem withWindow_script (h n : Nat) : (s.withWindow h n).script = s.script := rfl
@[simp] theorem withWindow_freeCount (h n : Nat) : (s.withWindow h n).freeCount = s.freeCount := rfl

@[simp] theorem withPopData_acc (w : Report) : (s.withPopData w).acc = s.acc := rfl
@[simp] theorem withPopData_shift (w : Report) : (s.withPopData w).shift = s.shift := rfl
@[simp] theorem withPopData_shiftEvt (w : Report) : (s.withPopData w).shiftEvt = s.shiftEvt := rfl
@[simp] theorem withPopData_pending (w : Report) : (s.withPopData w).pending = s.pending := rfl
@[simp] theorem withPopData_sphase (w : Report) : (s.withPopData w).sphase = s.sphase := rfl
@[simp] theorem withPopData_hold (w : Report) : (s.withPopData w).hold = s.hold := rfl
@[simp] theorem withPopData_relayFull (w : Report) : (s.withPopData w).relayFull = s.relayFull := rfl
@[simp] theorem withPopData_relayData (w : Report) : (s.withPopData w).relayData = s.relayData := rfl
@[simp] theorem withPopData_qMem (w : Report) : (s.withPopData w).qMem = s.qMem := rfl
@[simp] theorem withPopData_qHead (w : Report) : (s.withPopData w).qHead = s.qHead := rfl
@[simp] theorem withPopData_qCount (w : Report) : (s.withPopData w).qCount = s.qCount := rfl
@[simp] theorem withPopData_popData (w : Report) : (s.withPopData w).popData = w := rfl
@[simp] theorem withPopData_script (w : Report) : (s.withPopData w).script = s.script := rfl
@[simp] theorem withPopData_freeCount (w : Report) : (s.withPopData w).freeCount = s.freeCount := rfl

@[simp] theorem withScript_acc (lines : List Line) : (s.withScript lines).acc = s.acc := rfl
@[simp] theorem withScript_shift (lines : List Line) : (s.withScript lines).shift = s.shift := rfl
@[simp] theorem withScript_shiftEvt (lines : List Line) : (s.withScript lines).shiftEvt = s.shiftEvt := rfl
@[simp] theorem withScript_pending (lines : List Line) : (s.withScript lines).pending = s.pending := rfl
@[simp] theorem withScript_sphase (lines : List Line) : (s.withScript lines).sphase = s.sphase := rfl
@[simp] theorem withScript_hold (lines : List Line) : (s.withScript lines).hold = s.hold := rfl
@[simp] theorem withScript_relayFull (lines : List Line) : (s.withScript lines).relayFull = s.relayFull := rfl
@[simp] theorem withScript_relayData (lines : List Line) : (s.withScript lines).relayData = s.relayData := rfl
@[simp] theorem withScript_qMem (lines : List Line) : (s.withScript lines).qMem = s.qMem := rfl
@[simp] theorem withScript_qHead (lines : List Line) : (s.withScript lines).qHead = s.qHead := rfl
@[simp] theorem withScript_qCount (lines : List Line) : (s.withScript lines).qCount = s.qCount := rfl
@[simp] theorem withScript_popData (lines : List Line) : (s.withScript lines).popData = s.popData := rfl
@[simp] theorem withScript_script (lines : List Line) : (s.withScript lines).script = lines := rfl
@[simp] theorem withScript_freeCount (lines : List Line) : (s.withScript lines).freeCount = s.freeCount := rfl

end Sys2Proof.Machine
end

