-- ==== Sys2Proof/Laws/Ops.lean ====
section
/-! SUPPORT. What each shared operation can do, said once. -/

namespace Sys2Proof.Machine

open Sys2Proof

variable {c : Config} {s : State}

/-! ## Relay -/

/-- At the capacity 1 of the source the relay has room exactly when it is empty. -/
theorem relayRoom_eq (hc : c.relayCap = 1) (s : State) : relayRoom c s = !s.relayFull := by
  cases h : s.relayFull <;> simp [relayRoom, relayCount, h, hc]

theorem pushReport_empty (w : Report) (hc : c.relayCap = 1) (h : s.relayFull = false) :
    pushReport c w s = s.relayPut w := by
  simp [pushReport, relayRoom_eq hc, h]

theorem pushReport_full (w : Report) (hc : c.relayCap = 1) (h : s.relayFull = true) :
    pushReport c w s = s.stalledWith w := by
  simp [pushReport, relayRoom_eq hc, h]

/-- A push either fills the empty relay or stalls the Scanner. -/
theorem pushReport_cases (w : Report) (hc : c.relayCap = 1) (s : State) :
    (s.relayFull = false ∧ pushReport c w s = s.relayPut w) ∨
      (s.relayFull = true ∧ pushReport c w s = s.stalledWith w) := by
  cases h : s.relayFull
  · exact .inl ⟨rfl, pushReport_empty w hc h⟩
  · exact .inr ⟨rfl, pushReport_full w hc h⟩

/-- A retry completes the stalled push into the empty relay, or nothing happens. -/
theorem retry_cases (hc : c.relayCap = 1) (s : State) :
    (s.sphase = .stalled ∧ s.relayFull = false ∧ retry c s = (s.relayPut s.hold).resumed) ∨
      (¬ (s.sphase = .stalled ∧ s.relayFull = false) ∧ retry c s = s) := by
  cases hp : s.sphase <;> cases hr : s.relayFull <;> simp [retry, retryEnabled, relayRoom_eq hc, hp, hr]

/-- A drain empties the relay into the queue, or nothing happens. -/
theorem drainRelay_cases (c : Config) (s : State) :
    (s.relayFull = true ∧ drainRelay c s = enqueue c s.relayData s.relayTaken) ∨
      (s.relayFull = false ∧ drainRelay c s = s) := by
  cases h : s.relayFull <;> simp [drainRelay, drainEnabled, h]

/-! ## Queue -/

theorem enqueue_room (w : Report) (h : s.qCount < c.queueCap) :
    enqueue c w s = (s.withSlot (enqSlot c s) w).withWindow s.qHead (s.qCount + 1) := by
  simp [enqueue, h]

theorem enqueue_full (w : Report) (h : ¬ s.qCount < c.queueCap) : enqueue c w s = s := by
  simp [enqueue, h]

theorem dequeue_some (h : 0 < s.qCount) :
    dequeue c s =
      (s.withPopData (s.slot s.qHead)).withWindow ((s.qHead + 1) % c.queueCap) (s.qCount - 1) := by
  simp [dequeue, h]

theorem dequeue_empty (h : s.qCount = 0) : dequeue c s = s.withPopData 0x00000000#32 := by
  simp [dequeue, h]

/-- The live entries depend on the queue's storage and window alone. -/
theorem liveEntries_congr {s t : State} (hm : s.qMem = t.qMem) (hh : s.qHead = t.qHead) (hn : s.qCount = t.qCount) :
    liveEntries c s = liveEntries c t := by
  simp [liveEntries, State.slot, hm, hh, hn]

@[simp] theorem liveEntries_length (c : Config) (s : State) : (liveEntries c s).length = s.qCount := by
  simp [liveEntries]

/-! ## Composer -/

@[simp] theorem composeClass_start (x p : Pending) : composeClass c (.start x) p = ⟨none, startPending c x p⟩ := rfl

theorem composeClass_noKey (m : ModByte) (p : Pending) : composeClass c (.key 0x00#8 m) p = ⟨none, .none⟩ := by
  simp [composeClass]

theorem composeClass_key {kc : Keycode} (m : ModByte) (p : Pending) (h : kc ≠ 0x00#8) :
    composeClass c (.key kc m) p = ⟨some (keyReport c kc m p), .none⟩ := by
  simp [composeClass, h]

theorem afterCompose_none {r : Composed} (h : r.report = none) : afterCompose c r s = s.withPending r.pending := by
  simp [afterCompose, h]

theorem afterCompose_some {r : Composed} {w : Report} (h : r.report = some w) :
    afterCompose c r s = pushReport c w (s.withPending r.pending) := by
  simp [afterCompose, h]

/-- Lane 0 of a packed report is its primary keycode. -/
theorem lane_zero_pack (k0 k1 k2 : Keycode) (m : ModByte) : lane (pack k0 k1 k2 m) 0 = k0 := by
  apply BitVec.eq_of_getLsbD_eq
  intro i hi
  unfold lane pack
  simp only [BitVec.getLsbD_extractLsb', BitVec.getLsbD_append, hi, decide_true, Bool.true_and]
  repeat' split
  all_goals first | omega | (congr 1; omega)

/-- At the report width 32 of the source a report is the word itself. -/
theorem atReportWidth_eq (hc : c.reportW = 32) (w : Report) : atReportWidth c w = w := by
  simp [atReportWidth, hc]

/-- Lane 0 of a forwarded report is the key of its own. -/
theorem lane_zero_keyReport (hc : c.reportW = 32) (kc : Keycode) (m : ModByte) (p : Pending) :
    lane (keyReport c kc m p) 0 = kc := by
  unfold keyReport
  rw [atReportWidth_eq hc]
  split <;> exact lane_zero_pack _ _ _ _

/-! ## Operands -/

/-- At the mask width 8 of the source the sample is the inverted switch lines. -/
theorem sample_eq (hc : c.maskW = 8) (swN : BitVec 8) : sample c swN = ~~~swN := by
  simp [sample, hc]

/-- At the finger field of the source the Fset is the low four bits of the mask. -/
theorem fset_eq (hc : c.fsetBits = ⟨3, 0⟩) (mask : ChordMask) : fset c mask = mask.extractLsb' 0 4 := by
  unfold fset
  rw [hc]
  exact BitVec.setWidth_eq _

/-! ## Sampler -/

/-- A scan tick does one of four things. -/
theorem scanTick_cases (c : Config) (swN : BitVec 8) (s : State) :
    (s.sphase = .stalled ∧ scanTick c swN s = s) ∨
    (s.sphase = .idle ∧ sample c swN ≠ 0x00#8 ∧ scanTick c swN s = s.withAcc (s.acc ||| sample c swN)) ∨
    (s.sphase = .idle ∧ sample c swN = 0x00#8 ∧ s.acc ≠ 0x00#8 ∧
      scanTick c swN s = decodeCycle c s.acc (s.withAcc 0x00#8)) ∨
    (s.sphase = .idle ∧ sample c swN = 0x00#8 ∧ s.acc = 0x00#8 ∧ scanTick c swN s = s) := by
  unfold scanTick
  cases hp : s.sphase <;> by_cases hs : sample c swN = 0x00#8 <;> by_cases ha : s.acc = 0x00#8 <;> simp [hs, ha]

end Sys2Proof.Machine
end

