-- ==== Sys2Proof/Laws/PerInstr.lean ====
section
/-! SUPPORT. Statements about every operation as syntax, made per constructor of `Instr`. -/

/-- The encoded line of an operation has exactly the operand bytes its format takes (`30_encoding.md` R90, R94, R98,
R101). -/
def Sys2Proof.Laws.EncodedLength.Statement (i : Sys2Proof.Instr) : Prop :=
  ∀ c : Sys2Proof.Config,
    (Sys2Proof.encodeLine c i).bytes.length = Sys2Proof.formatBytes (Sys2Proof.encodeLine c i).format

theorem Sys2Proof.Laws.EncodedLength.scanTick (swN) : Sys2Proof.Laws.EncodedLength.Statement (.scanTick swN) := fun _ => rfl
theorem Sys2Proof.Laws.EncodedLength.decChar (f) : Sys2Proof.Laws.EncodedLength.Statement (.decChar f) := fun _ => rfl
theorem Sys2Proof.Laws.EncodedLength.decThumb (f) : Sys2Proof.Laws.EncodedLength.Statement (.decThumb f) := fun _ => rfl
theorem Sys2Proof.Laws.EncodedLength.decNum (f) : Sys2Proof.Laws.EncodedLength.Statement (.decNum f) := fun _ => rfl
theorem Sys2Proof.Laws.EncodedLength.decCapsToggle : Sys2Proof.Laws.EncodedLength.Statement .decCapsToggle := fun _ => rfl
theorem Sys2Proof.Laws.EncodedLength.decCommand (f) : Sys2Proof.Laws.EncodedLength.Statement (.decCommand f) := fun _ => rfl
theorem Sys2Proof.Laws.EncodedLength.decNumlockToggle : Sys2Proof.Laws.EncodedLength.Statement .decNumlockToggle := fun _ => rfl
theorem Sys2Proof.Laws.EncodedLength.decPanicClear : Sys2Proof.Laws.EncodedLength.Statement .decPanicClear := fun _ => rfl
theorem Sys2Proof.Laws.EncodedLength.decEshiftSet : Sys2Proof.Laws.EncodedLength.Statement .decEshiftSet := fun _ => rfl
theorem Sys2Proof.Laws.EncodedLength.decCountermand (f) : Sys2Proof.Laws.EncodedLength.Statement (.decCountermand f) := fun _ => rfl
theorem Sys2Proof.Laws.EncodedLength.decNop (mask) : Sys2Proof.Laws.EncodedLength.Statement (.decNop mask) := fun _ => rfl
theorem Sys2Proof.Laws.EncodedLength.compNone : Sys2Proof.Laws.EncodedLength.Statement .compNone := fun _ => rfl
theorem Sys2Proof.Laws.EncodedLength.compCtrlStart : Sys2Proof.Laws.EncodedLength.Statement .compCtrlStart := fun _ => rfl
theorem Sys2Proof.Laws.EncodedLength.compAltStart : Sys2Proof.Laws.EncodedLength.Statement .compAltStart := fun _ => rfl
theorem Sys2Proof.Laws.EncodedLength.compAltctrlStart : Sys2Proof.Laws.EncodedLength.Statement .compAltctrlStart := fun _ => rfl
theorem Sys2Proof.Laws.EncodedLength.compGuiStart : Sys2Proof.Laws.EncodedLength.Statement .compGuiStart := fun _ => rfl
theorem Sys2Proof.Laws.EncodedLength.compGuiKey : Sys2Proof.Laws.EncodedLength.Statement .compGuiKey := fun _ => rfl
theorem Sys2Proof.Laws.EncodedLength.compCtrlkey (code) : Sys2Proof.Laws.EncodedLength.Statement (.compCtrlkey code) := fun _ => rfl
theorem Sys2Proof.Laws.EncodedLength.compPrintable (code) : Sys2Proof.Laws.EncodedLength.Statement (.compPrintable code) := fun _ => rfl
theorem Sys2Proof.Laws.EncodedLength.compExt1 : Sys2Proof.Laws.EncodedLength.Statement .compExt1 := fun _ => rfl
theorem Sys2Proof.Laws.EncodedLength.compExt2 : Sys2Proof.Laws.EncodedLength.Statement .compExt2 := fun _ => rfl
theorem Sys2Proof.Laws.EncodedLength.compUnmapped (code) : Sys2Proof.Laws.EncodedLength.Statement (.compUnmapped code) := fun _ => rfl
theorem Sys2Proof.Laws.EncodedLength.push (w) : Sys2Proof.Laws.EncodedLength.Statement (.push w) := fun _ => rfl
theorem Sys2Proof.Laws.EncodedLength.retryPush : Sys2Proof.Laws.EncodedLength.Statement .retryPush := fun _ => rfl
theorem Sys2Proof.Laws.EncodedLength.drain : Sys2Proof.Laws.EncodedLength.Statement .drain := fun _ => rfl
theorem Sys2Proof.Laws.EncodedLength.pop : Sys2Proof.Laws.EncodedLength.Statement .pop := fun _ => rfl
theorem Sys2Proof.Laws.EncodedLength.reset : Sys2Proof.Laws.EncodedLength.Statement .reset := fun _ => rfl
end

