-- ==== Sys2Proof/Laws/Queue.lean ====
section
/-! SUPPORT. The queue storage keeps its shape: every operation that writes the queue, and the reset state
(`10_state.md` R46, 1; `20_memory.md` R68). -/

namespace Sys2Proof.Machine

open Sys2Proof

variable {c : Config} {s : State}

theorem enqueue_keeps_shape (w : Report) (h : s.QueueShape c) : (enqueue c w s).QueueShape c := by
  by_cases hr : s.qCount < c.queueCap
  · rw [enqueue_room w hr]
    exact ⟨by simpa using h.mem_length, by simpa using h.head_lt, by simpa using hr⟩
  · rwa [enqueue_full w hr]

theorem dequeue_keeps_shape (h : s.QueueShape c) : (dequeue c s).QueueShape c := by
  have hpos : 0 < c.queueCap := Nat.lt_of_le_of_lt (Nat.zero_le _) h.head_lt
  by_cases hn : 0 < s.qCount
  · rw [dequeue_some hn]
    exact ⟨by simpa using h.mem_length, by simpa using Nat.mod_lt _ hpos,
      by simpa using Nat.le_trans (Nat.sub_le _ _) h.count_le⟩
  · rw [dequeue_empty (by omega)]
    exact ⟨by simpa using h.mem_length, by simpa using h.head_lt, by simpa using h.count_le⟩

theorem drainRelay_keeps_shape (h : s.QueueShape c) : (drainRelay c s).QueueShape c := by
  rcases drainRelay_cases c s with ⟨_, e⟩ | ⟨_, e⟩
  · rw [e]
    exact enqueue_keeps_shape _ ⟨by simpa using h.mem_length, by simpa using h.head_lt, by simpa using h.count_le⟩
  · rwa [e]

theorem resetBlock_has_shape (hc : 1 ≤ c.queueCap) : (resetBlock c s).QueueShape c :=
  ⟨by simp [resetBlock], hc, Nat.zero_le _⟩

theorem reset_has_shape : State.reset.QueueShape blockConfig := ⟨by decide, by decide, by decide⟩

/-- The slot an enqueue writes lies in the storage. -/
theorem enqSlot_lt (h : s.QueueShape c) : enqSlot c s < c.queueCap :=
  Nat.mod_lt _ (Nat.lt_of_le_of_lt (Nat.zero_le _) h.head_lt)

/-- Reading a slot after an enqueue: the written slot gives the word, every other slot what it gave before. -/
theorem slot_withSlot (i j : Nat) (w : Report) (hj : j < s.qMem.length) :
    (s.withSlot i w).slot j = if i = j then w else s.slot j := by
  by_cases h : i = j
  · subst h
    simp [State.slot, hj]
  · simp [State.slot, List.getD_eq_getElem?_getD, List.getElem?_set_ne h, h]

end Sys2Proof.Machine
end

