-- ==== Sys2Proof/Tests/Slice0.lean ====
section
/-! SUPPORT. Tests with expected values from `95_test_vectors.md` (named VS, VD, VC, VQ, VX there), the encodings written
out in bits, the ill-formed terms, and a witness for each statement that has hypotheses. -/

namespace Sys2Proof.Tests

open Sys2Proof Sys2Proof.Machine

set_option maxRecDepth 4000

/-! ## Helpers -/

/-- The next state an outcome answers. -/
def nextOf : Host.Outcome State Fault Refusal → Option State
  | .next s => some s
  | .fault _ => none
  | .refused _ => none

/-- The next state after an operation, seen through `f`. -/
def view {α : Type} (f : State → α) (i : Instr) (s : State) : Option α := (nextOf (exec i s)).map f

/-- What a composer vector of the spec states: the relay's word, if any, and the pending modifier. -/
def relayAndPending (s : State) : List Report × Pending := (relayWords s, s.pending)

/-- The reset state with this shift state. -/
def withFlags (caps num : ShiftFlag) (esh : EShift) : State := State.reset.withShift ⟨caps, num, esh⟩

/-- The reset state with this pending modifier. -/
def withPend (p : Pending) : State := State.reset.withPending p

/-- A Scanner stalled behind a full relay (VQ2 after). -/
def stalledState : State := (State.reset.relayPut 0x0000001E#32).stalledWith 0x0000001F#32

/-- A queue with the words 1 to 8 in its slots and this window. -/
def queueState (h n : Nat) : State :=
  { State.reset.withWindow h n with qMem := (List.range 8).map fun k => BitVec.ofNat 32 (k + 1) }

/-- A second well-formed configuration: other modifier places, one queue slot, the other policies. -/
def altConfig : Config :=
  { blockConfig with
    modBitThumb := 7
    modBitCaps := 6
    modBitNum := 5
    modBitRepeat := 4
    queueCap := 1
    composeOnNone := false
    startAfterPending := .relatch }

theorem altConfig_wf : altConfig.WF := by constructor <;> decide

/-- An idle state with an empty queue of one slot, for `altConfig`. -/
def oneSlot : State := State.resetAt altConfig

/-- A Scanner stalled behind a full relay, with the one queue slot of `altConfig`. -/
def oneSlotStalled : State := (oneSlot.relayPut 0x0000001E#32).stalledWith 0x0000001F#32

/-! ## Ill-formed terms are refused -/

theorem test_ill_formed_terms :
    ([Instr.decChar 0x0#4, .decNum 0x0#4, .decCommand 0x0#4, .decCountermand 0x0#4, .decNop 0x20#8, .decNop 0x0C#8,
      .compCtrlkey 0x0A#8, .compCtrlkey 0x05#8, .compPrintable 0x1F#8, .compPrintable 0x7F#8, .compUnmapped 0x06#8,
      .compUnmapped 0x00#8, .push 0x0100E000#32].map (wellFormed blockConfig)).all (· == false) = true := by decide

theorem test_well_formed_terms :
    ([Instr.decChar 0x1#4, .decThumb 0x0#4, .decNum 0xF#4, .decCommand 0x1#4, .decCountermand 0xF#4, .decNop 0x00#8,
      .decNop 0x40#8, .decNop 0xFF#8, .compCtrlkey 0x06#8, .compCtrlkey 0x1E#8, .compPrintable 0x20#8,
      .compPrintable 0x7E#8, .compUnmapped 0x0A#8, .compUnmapped 0x1F#8, .compUnmapped 0x7F#8, .compUnmapped 0xFF#8,
      .push 0x00000001#32].map (wellFormed blockConfig)).all (· == true) = true := by decide

theorem test_lines_that_are_no_encoding :
    decodeLine blockConfig ⟨.scanTick, []⟩ = .error (.wrongByteCount .scanTick 0) ∧
    decodeLine blockConfig ⟨.chordMask, [0x0C#8, 0x00#8]⟩ = .error (.wrongByteCount .chordMask 2) ∧
    decodeLine blockConfig ⟨.popReq, [0x00#8]⟩ = .error (.wrongByteCount .popReq 1) ∧
    decodeLine blockConfig ⟨.push, [0x00#8, 0xE0#8, 0x00#8, 0x01#8]⟩ = .error (.pushWithoutKey 0x0100E000#32) := by
  decide

/-! ## Every encoding, written out in bits (R91, R95, R142, R181; `00_scope.md` R14) -/

theorem test_decode_chords :
    ([0b00001100#8, 0b00011111#8, 0b01001111#8, 0b00100000#8, 0b00100001#8, 0b01010000#8, 0b00110000#8, 0b01100000#8,
      0b01101111#8, 0b10001100#8, 0b00000000#8, 0b01000000#8, 0b00110001#8].map (chordInstr blockConfig)) =
    [.decChar 0xC#4, .decThumb 0xF#4, .decNum 0xF#4, .decCapsToggle, .decCommand 0x1#4, .decNumlockToggle,
      .decPanicClear, .decEshiftSet, .decCountermand 0xF#4, .decNop 0x8C#8, .decNop 0x00#8, .decNop 0x40#8,
      .decNop 0x31#8] := by decide

theorem test_decode_codes :
    ([0b00000000#8, 0b00000001#8, 0b00000010#8, 0b00000011#8, 0b00000100#8, 0b00000101#8, 0b00011011#8, 0b01100011#8,
      0b10000000#8, 0b10000001#8, 0b00001010#8, 0b01111111#8].map (codeInstr blockConfig)) =
    [.compNone, .compCtrlStart, .compAltStart, .compAltctrlStart, .compGuiStart, .compGuiKey, .compCtrlkey 0x1B#8,
      .compPrintable 0x63#8, .compExt1, .compExt2, .compUnmapped 0x0A#8, .compUnmapped 0x7F#8] := by decide

theorem test_decode_events :
    decodeLine blockConfig ⟨.scanTick, [0b11110011#8]⟩ = .ok (.scanTick 0xF3#8) ∧
    decodeLine blockConfig ⟨.push, [0b00000110#8, 0b11100000#8, 0b00000000#8, 0b00000001#8]⟩ =
      .ok (.push 0x0100E006#32) ∧
    decodeLine blockConfig ⟨.retry, []⟩ = .ok .retryPush ∧ decodeLine blockConfig ⟨.drain, []⟩ = .ok .drain ∧
    decodeLine blockConfig ⟨.popReq, []⟩ = .ok .pop ∧ decodeLine blockConfig ⟨.rst, []⟩ = .ok .reset := by decide

theorem test_table_words :
    decodeTableWord 8 0x41 = some (.decNum 0x1#4) ∧ decodeTableWord 8 0x02 = some .compAltStart ∧
    decodeTableWord 8 0x80 = some .compExt1 ∧ decodeTableWord 16 0x60 = some .decEshiftSet ∧
    decodeTableWord 32 0x0000001E = some .drain ∧ decodeTableWord 24 0x00 = none := by decide

/-! ## Sampler -/

theorem test_tick_accumulates_VS4 : view State.acc (.scanTick 0xFB#8) (State.reset.withAcc 0x0C#8) = some 0x0C#8 := by decide

theorem test_tick_completes_a_VS5 :
    view (fun s => (s.acc, relayWords s)) (.scanTick 0xFF#8) (State.reset.withAcc 0x0C#8) =
      some (0x00#8, [0x00000004#32]) := by decide

/-! ## Decoder -/

theorem test_char_a_VD1 : view relayWords (.decChar 0xC#4) State.reset = some [0x00000004#32] := by decide

theorem test_char_numlock_before_caps_VD4 (c : Config) :
    decChar c 0xC#4 ⟨.transient, .transient, .off⟩ = ⟨c.rom .num 0xC#4, ⟨.transient, .off, .off⟩, false⟩ := rfl

theorem test_thumb_locked_flags_stay_VD16 (c : Config) :
    decThumb c 0x5#4 ⟨.locked, .locked, .off⟩ = ⟨c.rom .numThumb 0x5#4, ⟨.locked, .locked, .off⟩, false⟩ := rfl

theorem test_thumb_caps_tier_VD12 (c : Config) :
    decThumb c 0x0#4 ⟨.transient, .off, .off⟩ = ⟨upper (c.rom .capsThumb 0x0#4), ⟨.off, .off, .off⟩, false⟩ := rfl

theorem test_num_consumes_eshift_only_VD19 (c : Config) :
    decNum c 0xF#4 ⟨.transient, .transient, .transient⟩ = ⟨c.rom .ctm 0xF#4, ⟨.transient, .transient, .off⟩, false⟩ := rfl

theorem test_num_leaves_numlock_VD18 (c : Config) :
    decNum c 0x1#4 ⟨.locked, .locked, .off⟩ = ⟨c.rom .num 0x1#4, ⟨.locked, .locked, .off⟩, false⟩ := rfl

theorem test_caps_toggle_VD22 :
    view (fun s => (s.shift.caps, s.shiftEvt)) .decCapsToggle (withFlags .transient .off .off) = some (.locked, true) := by
  decide

theorem test_caps_toggle_wraps_VD23 :
    view State.shift .decCapsToggle (withFlags .locked .off .off) = some ⟨.off, .off, .off⟩ := by decide

theorem test_command_consumes_nothing_VD25 (c : Config) :
    decCommand c 0x1#4 ⟨.transient, .transient, .transient⟩ =
      ⟨c.rom .cmd 0x1#4, ⟨.transient, .transient, .transient⟩, false⟩ := rfl

theorem test_numlock_toggle_VD29 :
    view (fun s => (s.shift, s.shiftEvt)) .decNumlockToggle (withFlags .transient .locked .transient) =
      some (⟨.transient, .off, .transient⟩, false) := by decide

theorem test_panic_clear_VD30 :
    view State.shift .decPanicClear (withFlags .locked .locked .transient) = some ⟨.off, .off, .off⟩ := by decide

theorem test_eshift_set_VD33 :
    view State.shift .decEshiftSet (withFlags .locked .transient .transient) =
      some ⟨.locked, .transient, .transient⟩ := by decide

theorem test_countermand_keeps_eshift_VD34 (c : Config) :
    decCountermand c 0x1#4 ⟨.off, .off, .transient⟩ = ⟨c.rom .ctm 0x1#4, ⟨.off, .off, .transient⟩, false⟩ := rfl

theorem test_nop_VD45 :
    view (fun s => (s.shift, relayWords s)) (.decNop 0xFF#8) (withFlags .locked .locked .transient) =
      some (⟨.locked, .locked, .transient⟩, []) := by decide

theorem test_upper :
    ([0x61#8, 0x7A#8, 0x60#8, 0x7B#8, 0x41#8, 0x31#8, 0x00#8, 0x01#8, 0x80#8].map upper) =
      [0x41#8, 0x5A#8, 0x60#8, 0x7B#8, 0x41#8, 0x31#8, 0x00#8, 0x01#8, 0x80#8] := by decide

/-! ## Composer -/

theorem test_none_VC2 : view relayAndPending .compNone (withPend .ctrl) = some ([], .none) := by decide

theorem test_ctrl_start_VC3 : view relayAndPending .compCtrlStart State.reset = some ([], .ctrl) := by decide

theorem test_ctrl_start_VC5 : view relayAndPending .compCtrlStart (withPend .gui) = some ([], .none) := by decide

theorem test_alt_start_VC6 : view relayAndPending .compAltStart State.reset = some ([], .alt) := by decide

theorem test_altctrl_start_VC8 : view relayAndPending .compAltctrlStart State.reset = some ([], .altctrl) := by decide

theorem test_gui_start_VC9 : view relayAndPending .compGuiStart State.reset = some ([], .gui) := by decide

theorem test_gui_key_VC12 :
    view relayAndPending .compGuiKey (withPend .ctrl) = some ([0x0900E0E3#32], .none) := by decide

theorem test_f11_VC32 :
    view relayAndPending (.compCtrlkey 0x1D#8) (withPend .altctrl) = some ([0x05E2E044#32], .none) := by decide

theorem test_printable_VC43 :
    view relayAndPending (.compPrintable 0x63#8) (withPend .ctrl) = some ([0x0100E006#32], .none) := by decide

theorem test_printable_VC48 :
    view relayAndPending (.compPrintable 0x7E#8) (withPend .alt) = some ([0x0600E235#32], .none) := by decide

theorem test_ext1_VC51 : view relayAndPending .compExt1 (withPend .ctrl) = some ([0x4100E021#32], .none) := by decide

theorem test_ext2_VC53 : view relayAndPending .compExt2 (withPend .alt) = some ([0x0600E220#32], .none) := by decide

theorem test_unmapped_VC55 : view relayAndPending (.compUnmapped 0xFF#8) (withPend .altctrl) = some ([], .none) := by decide

theorem test_relatch_VC56_VC57 :
    compose altConfig 0x01#8 .ctrl = ⟨none, .ctrl⟩ ∧ compose altConfig 0x02#8 .ctrl = ⟨none, .alt⟩ := by decide

theorem test_control_keys_VC13_to_VC33 :
    ([0x06#8, 0x07#8, 0x08#8, 0x09#8, 0x0B#8, 0x0C#8, 0x0D#8, 0x0E#8, 0x0F#8, 0x10#8, 0x11#8, 0x12#8, 0x1A#8, 0x1B#8, 0x1C#8,
      0x1E#8].map fun code => (compose blockConfig code .none).report) =
    [some 0x49#32, some 0x4C#32, some 0x2A#32, some 0x2B#32, some 0x52#32, some 0x51#32, some 0x28#32, some 0x50#32,
      some 0x4F#32, some 0x4B#32, some 0x4E#32, some 0x3A#32, some 0x42#32, some 0x29#32, some 0x43#32, some 0x45#32] := by
  decide

/-! ## Relay, queue, reset -/

theorem test_push_VQ1 : view relayWords (.push 0x00000004#32) State.reset = some [0x00000004#32] := by decide

theorem test_push_stalls_VQ2 :
    view id (.push 0x0000001F#32) (State.reset.relayPut 0x0000001E#32) = some stalledState := by decide

theorem test_retry_not_enabled_VQ4 : view id .retryPush stalledState = some stalledState := by decide

theorem test_retry_VQ5 :
    view (fun s => (relayWords s, s.sphase)) .retryPush stalledState.relayTaken =
      some ([0x0000001F#32], .idle) := by decide

theorem test_drain_full_drops_VQ7 :
    view (fun s => (s.relayFull, s.qMem, s.qHead, s.qCount)) .drain ((queueState 3 8).relayPut 0x00000009#32) =
      some (false, (queueState 3 8).qMem, 3, 8) := by decide

theorem test_drain_wraps_VQ9 :
    view (fun s => (s.slot 1, s.qHead, s.qCount)) .drain ((queueState 6 3).relayPut 0x000000AA#32) =
      some (0x000000AA#32, 6, 4) := by decide

theorem test_pop_empty_VQ10 :
    view (fun s => (s.popData, s.qHead, s.qCount)) .pop (State.reset.withPopData 0x00000007#32) =
      some (0x00000000#32, 0, 0) := by decide

theorem test_pop_wraps_VQ11 :
    view (fun s => (s.popData, s.qHead, s.qCount)) .pop (queueState 7 2) = some (0x00000008#32, 0, 1) := by decide

/-- The state before VX1. -/
def busyState : State :=
  { stalledState with acc := 0x0C#8, shift := ⟨.locked, .locked, .transient⟩, pending := .gui, qHead := 5, qCount := 8 }

theorem test_reset_VX1 :
    view (fun s => (s.acc, s.shift, s.pending, s.sphase)) .reset busyState =
      some (0x00#8, ⟨.off, .off, .off⟩, .none, .idle) ∧
    view (fun s => (s.relayFull, s.qHead, s.qCount, s.popData)) .reset busyState = some (false, 0, 0, 0x00000000#32) := by
  decide

/-! ## The step -/

theorem test_step_serves_the_placed_word :
    (nextOf (step (State.reset.withFetchWord 8 0x0C))).map relayWords = some [0x00000004#32] ∧
    (nextOf (step (State.reset.withFetchWord 32 0x1E))).map (liveEntries blockConfig) = some [0x0000001E#32] ∧
    (nextOf (Sys2Proof.core.step (State.reset.withFetchWord 8 0x03))).map State.pending = some .altctrl := by decide

theorem test_step_refuses_a_line_that_is_no_encoding :
    step (State.reset.withScript [⟨.chordMask, []⟩]) = .refused (.undecodable (.wrongByteCount .chordMask 0)) := rfl

/-- Under `altConfig` a chord that decodes to NONE does not run the composer (`40_sampler.md` R125), and the mask bits of
the modifier switches are other ones. -/
theorem test_step_under_another_configuration :
    (nextOf (stepAt altConfig ((oneSlot.withPending .ctrl).withScript [chordLine 0x40#8]))).map
      (fun s => (s.shift.caps, s.pending)) = some (.transient, .ctrl) ∧
    (nextOf (stepAt blockConfig ((withPend .ctrl).withScript [chordLine 0x20#8]))).map
      (fun s => (s.shift.caps, s.pending)) = some (.transient, .none) := by decide

/-! ## Witnesses: concrete values that meet the hypotheses of each statement -/

theorem witness_DecodeOfEncodeIsTheOperation :
    altConfig.WF ∧ wellFormed altConfig (.decChar 0x1#4) = true ∧ wellFormed altConfig (.decNop 0x10#8) = true ∧
      wellFormed altConfig (.push 0x00000001#32) = true := ⟨altConfig_wf, by decide⟩

theorem witness_EncodeOfDecodeIsTheLine :
    altConfig.WF ∧ decodeLine altConfig ⟨.chordMask, [0x81#8]⟩ = .ok (.decThumb 0x1#4) := ⟨altConfig_wf, by decide⟩

theorem witness_BranchConditionsAreDisjointAndCover : altConfig.WF := altConfig_wf

theorem witness_RepeatMasksAreNoOps :
    altConfig.WF ∧ (mods altConfig 0x10#8).getLsbD 3 = true ∧ (mods altConfig 0xFF#8).getLsbD 3 = true :=
  ⟨altConfig_wf, by decide⟩

theorem witness_StateEncodingsReadBack :
    (0b11000#5).extractLsb' 3 2 = 0b11#2 ∧ (0b00110#5).extractLsb' 1 2 = 0b11#2 ∧ (0b101#3 ≤ 0b101#3) ∧
      (0b101#3 ≤ 0b111#3) := by decide

theorem witness_TableSpaceIsAddressedByTidAndFset : (0xA#4 ≤ 0xA#4) ∧ (0xA#4 ≤ 0xF#4) := by decide

theorem witness_StepRunsTheDecodedLine :
    (State.reset.withScript [chordLine 0x0C#8, ⟨.popReq, []⟩]).script = chordLine 0x0C#8 :: [⟨.popReq, []⟩] ∧
      decodeLine blockConfig (chordLine 0x0C#8) = .ok (.decChar 0xC#4) := by decide

theorem witness_StepWithNoLineTakesTheInternalStep :
    (stalledState.relayTaken.script = [] ∧ stalledState.relayTaken.sphase = .stalled ∧
      stalledState.relayTaken.relayFull = false) ∧
    (stalledState.script = [] ∧ stalledState.relayFull = true) ∧
    (State.reset.script = [] ∧ State.reset.sphase = .idle ∧ State.reset.relayFull = false) := by decide

theorem witness_StalledPushCompletesWithinThreeSteps :
    stalledState.script = [] ∧ stalledState.sphase = .stalled ∧ stalledState.relayFull = true := by decide

theorem witness_TicksThatCompleteNoChord :
    State.reset.sphase = .idle ∧ ~~~0xFE#8 ≠ 0x00#8 ∧ ~~~0xFF#8 = 0x00#8 ∧
      State.reset.acc = 0x00#8 := by decide

theorem witness_CompletionRunsTheSelectedBranch :
    (State.reset.withAcc 0x01#8).sphase = .idle ∧ ~~~0xFF#8 = 0x00#8 ∧ (State.reset.withAcc 0x01#8).acc ≠ 0x00#8 := by decide

theorem witness_SamplesUpToReleaseGiveOneChord :
    [0xF7#8, 0xFB#8] ≠ [] ∧ (∀ swN ∈ [0xF7#8, 0xFB#8], ~~~swN ≠ 0x00#8) ∧ State.reset.sphase = .idle ∧
      State.reset.acc = 0x00#8 ∧ [0xF7#8, 0xFB#8].Perm [0xFB#8, 0xF7#8] := by decide

theorem witness_StuckSwitchCompletesNoChord :
    7 < 8 ∧ (∀ swN ∈ [0x00#8, 0x7F#8], swN.getLsbD 7 = false) ∧ State.reset.sphase = .idle := by decide

theorem witness_StalledTicksAreABlackout : stalledState.sphase = .stalled := rfl

theorem witness_DecodeCycleWritesItsResults :
    (altConfig.composeOnNone = false ∧ (decodeChord altConfig 0x40#8 State.reset.shift).code = 0x00#8) ∧
    (blockConfig.composeOnNone = true ∧
      (compose blockConfig (decodeChord blockConfig 0x20#8 State.reset.shift).code .none).report = none) ∧
    ((decodeChord altConfig 0x0C#8 State.reset.shift).code ≠ 0x00#8 ∧ altConfig.relayCap = 1 ∧
      (compose altConfig (decodeChord altConfig 0x0C#8 State.reset.shift).code .none).report = some 0x00000004#32) := by
  decide

/-- One state for each clause of the two cascades. -/
theorem witness_CharAndThumbChordsCascade :
    ((withFlags .locked .locked .transient).shift.esh = .transient) ∧
    ((withFlags .off .transient .off).shift.esh = .off ∧ (withFlags .off .transient .off).shift.num = .transient) ∧
    ((withFlags .off .locked .off).shift.esh = .off ∧ (withFlags .off .locked .off).shift.num = .locked) ∧
    ((withFlags .transient .off .off).shift.num = .off ∧ (withFlags .transient .off .off).shift.caps = .transient) ∧
    ((withFlags .locked .off .off).shift.num = .off ∧ (withFlags .locked .off .off).shift.caps = .locked) ∧
    (State.reset.shift.esh = .off ∧ State.reset.shift.num = .off ∧ State.reset.shift.caps = .off) := by decide

theorem witness_NumChordOverridesTheCascade :
    (withFlags .off .locked .transient).shift.esh = .transient ∧ State.reset.shift.esh = .off := by decide

/-- The three clauses of each of the two toggles. -/
theorem witness_CapsAloneAndThumbNumToggle :
    (State.reset.shift.caps = .off ∧ State.reset.shift.num = .off) ∧
    ((withFlags .transient .transient .off).shift.caps = .transient ∧
      (withFlags .transient .transient .off).shift.num = .transient) ∧
    ((withFlags .locked .locked .off).shift.caps = .locked ∧ (withFlags .locked .locked .off).shift.num = .locked) := by
  decide

theorem witness_EShiftIsSingleShot : (withFlags .off .off .transient).shift.esh = .transient := rfl

theorem witness_UpperMapsSmallLettersOnly :
    (0x61 ≤ (0x61#8).toNat ∧ (0x7A#8).toNat ≤ 0x7A) ∧ (0x60#8).toNat < 0x61 ∧ 0x7A < (0x7B#8).toNat := by decide

theorem witness_OnlyTheDecoderWritesFlags :
    ∃ t, exec .decEshiftSet State.reset = .next t ∧ t.shift ≠ State.reset.shift := ⟨_, rfl, by decide⟩

theorem witness_ShiftEventIsStickyAndFromCapsAlone :
    Instr.decCapsToggle ≠ .reset ∧ completedChord 0xFF#8 (State.reset.withAcc 0x20#8) = some 0x20#8 := by decide

theorem witness_ChordCGivesTheLetterA :
    (State.reset.withAcc 0x0C#8).sphase = .idle ∧ (State.reset.withAcc 0x0C#8).acc = 0x0C#8 ∧
      (State.reset.withAcc 0x0C#8).shift = ⟨.off, .off, .off⟩ ∧ (State.reset.withAcc 0x0C#8).pending = .none ∧
      (State.reset.withAcc 0x0C#8).relayFull = false := by decide

theorem witness_SelectedCodeRunsTheComposer :
    (compose blockConfig 0x01#8 .none).report = none ∧ (compose blockConfig 0x7E#8 .alt).report = some 0x0600E235#32 := by
  decide

theorem witness_StartCodesLatchOrAreDropped : State.reset.pending = .none ∧ (withPend .gui).pending ≠ .none := by decide

theorem witness_StartCodeUnderEitherPolicy :
    classify blockConfig 0x04#8 = .start .gui ∧ blockConfig.startAfterPending = .drop ∧
      classify altConfig 0x01#8 = .start .ctrl ∧ altConfig.startAfterPending = .relatch ∧ Pending.altctrl ≠ .none := by decide

theorem witness_ControlKeysAreForwarded :
    (0x12 ≤ (0x12#8).toNat ∧ (0x12#8).toNat ≤ 0x1A ∧ 0x3A#8 = 0x12#8 + 0x28#8) ∧
    (0x12 ≤ (0x1A#8).toNat ∧ (0x1A#8).toNat ≤ 0x1A ∧ 0x42#8 = 0x1A#8 + 0x28#8) ∧
    (0x1C ≤ (0x1C#8).toNat ∧ (0x1C#8).toNat ≤ 0x1E ∧ 0x43#8 = 0x1C#8 + 0x27#8) ∧
    (0x1C ≤ (0x1E#8).toNat ∧ (0x1E#8).toNat ≤ 0x1E ∧ 0x45#8 = 0x1E#8 + 0x27#8) := by decide

theorem witness_PrintableCodesAreForwarded :
    (0x20 ≤ (0x20#8).toNat ∧ (0x20#8).toNat ≤ 0x7E) ∧ (0x20 ≤ (0x7E#8).toNat ∧ (0x7E#8).toNat ≤ 0x7E) := by decide

theorem witness_AsciiMapOfLettersAndDigits : 0 < 26 ∧ 25 < 26 ∧ 0 < 9 ∧ 8 < 9 := by decide

theorem witness_ForwardedExactlyWithAnOwnKeycode :
    altConfig.reportW = 32 ∧ (compose altConfig 0x80#8 .gui).report = some 0x4800E321#32 := by decide

theorem witness_PendingComesFromAStartCode :
    (compose blockConfig 0x02#8 .none).pending ≠ .none ∧ (compose altConfig 0x02#8 .ctrl).pending ≠ .none := by decide

theorem witness_PendingEndsWithTheNextChord : (withPend .ctrl).pending ≠ .none := by decide

/-- One forwarded report for each clause of R199. -/
theorem witness_ReportsHoldOneToThreeKeycodes :
    (compose blockConfig 0x41#8 .none).report = some 0x02000004#32 ∧
    (compose blockConfig 0x41#8 .ctrl).report = some 0x0300E004#32 ∧
    (compose blockConfig 0x7E#8 .alt).report = some 0x0600E235#32 ∧
    (compose blockConfig 0x72#8 .gui).report = some 0x0800E315#32 ∧
    (compose blockConfig 0x78#8 .altctrl).report = some 0x05E2E01B#32 := by decide

theorem witness_CtrlChainForwardsOneReport :
    State.reset.pending = .none ∧ State.reset.relayFull = false ∧ 0x20 ≤ (0x63#8).toNat ∧ (0x63#8).toNat ≤ 0x7E := by decide

theorem witness_PushFillsTheRelayOrStalls : State.reset.relayFull = false ∧ stalledState.relayFull = true := by decide

theorem witness_RetryCompletesTheStalledPush :
    stalledState.relayTaken.sphase = .stalled ∧ stalledState.relayTaken.relayFull = false := by decide

theorem witness_DrainEnqueuesOrDrops :
    (((queueState 6 7).relayPut 0x00000009#32).relayFull = true ∧ ((queueState 6 7).relayPut 0x00000009#32).qCount < 8) ∧
    (((queueState 3 8).relayPut 0x00000009#32).relayFull = true ∧
      8 ≤ ((queueState 3 8).relayPut 0x00000009#32).qCount) := by decide

theorem witness_PopReturnsTheOldestOrTheSentinel :
    (0 < (queueState 7 1).qCount ∧ (queueState 7 1).qMem[(queueState 7 1).qHead]? = some 0x00000008#32) ∧
      (queueState 7 0).qCount = 0 := by decide

theorem witness_StepsNotEnabledChangeNothing :
    State.reset.sphase = .idle ∧ stalledState.relayFull = true ∧ State.reset.relayFull = false := by decide

theorem queueState_shape : (queueState 7 8).QueueShape blockConfig := ⟨by decide, by decide, by decide⟩

theorem oneSlot_shape : oneSlot.QueueShape altConfig := ⟨by decide, by decide, by decide⟩

theorem witness_RingBufferRefinesABoundedFifo :
    (queueState 7 8).QueueShape blockConfig ∧ oneSlot.QueueShape altConfig := ⟨queueState_shape, oneSlot_shape⟩

theorem witness_OverflowDropsTheNewest :
    oneSlot.QueueShape altConfig ∧ oneSlot.qCount = 0 ∧ [0x00000001#32, 0x00000002#32].length = altConfig.queueCap + 1 :=
  ⟨oneSlot_shape, by decide⟩

/-- The full queue, the empty one and one in between, each behind a full relay. -/
theorem witness_DrainAndPopDifferOnlyAtTheBoundaries :
    (((queueState 7 8).relayPut 0x00000009#32).QueueShape blockConfig ∧
      ((queueState 7 8).relayPut 0x00000009#32).relayFull = true) ∧
    (((queueState 7 0).relayPut 0x00000009#32).QueueShape blockConfig ∧
      ((queueState 7 0).relayPut 0x00000009#32).relayFull = true) ∧
    (((queueState 7 7).relayPut 0x00000009#32).QueueShape blockConfig ∧
      ((queueState 7 7).relayPut 0x00000009#32).relayFull = true) :=
  ⟨⟨⟨by decide, by decide, by decide⟩, rfl⟩, ⟨⟨by decide, by decide, by decide⟩, rfl⟩, ⟨by decide, by decide, by decide⟩, rfl⟩

/-- A full queue behind a full relay, with a drain, a tick and a pop to serve: the premises of both run statements. -/
def runState : State :=
  ((queueState 7 8).relayPut 0x00000009#32).withScript [⟨.drain, []⟩, ⟨.scanTick, [0xF3#8]⟩, ⟨.popReq, []⟩]

theorem witness_ReportsAreReturnedInOrder : runState.QueueShape blockConfig ∧ agentScript runState :=
  ⟨⟨by decide, by decide, by decide⟩, by unfold agentScript; decide⟩

theorem witness_OnlyAFullQueueLosesReports :
    runState.QueueShape blockConfig ∧ agentScript runState ∧ noResetLine runState :=
  ⟨⟨by decide, by decide, by decide⟩, by unfold agentScript; decide, by unfold noResetLine; decide⟩

theorem witness_AgentsWriteOnlyTheirOwnState :
    (Instr.push 0x00000004#32 ≠ .reset ∧ opOwner (.push 0x00000004#32) ≠ .reporter ∧ stalledState.relayFull = true) ∧
      (Instr.drain ≠ .reset ∧ opOwner .drain = .reporter ∧ State.reset.relayFull = false) := by decide

/-- The invariant at a stalled state, of the machine and of the one-slot machine of `altConfig`. -/
theorem witness_StepKeepsTheInvariant :
    (stalledState.WF blockConfig ∧ step stalledState = .next (drainRelay blockConfig stalledState)) ∧
    (altConfig.WF ∧ oneSlotStalled.WF altConfig ∧
      stepAt altConfig oneSlotStalled = .next (drainRelay altConfig oneSlotStalled)) :=
  ⟨⟨⟨⟨by decide, by decide, by decide⟩, nofun, fun _ => by decide, fun _ => by decide⟩, rfl⟩,
    altConfig_wf, ⟨⟨by decide, by decide, by decide⟩, nofun, fun _ => by decide, fun _ => by decide⟩, rfl⟩

theorem witness_ResetStateHasTheInvariant : altConfig.WF := altConfig_wf

/-- A state that differs from the reset state in every unspecified word. -/
def otherReset : State := { queueState 0 0 with hold := 0x11111111#32, relayData := 0x22222222#32, freeCount := 10 }

theorem witness_UnspecifiedWordsAreUnobservable :
    State.reset.QueueShape blockConfig ∧ otherReset.QueueShape blockConfig ∧ Agree blockConfig State.reset otherReset :=
  ⟨⟨by decide, by decide, by decide⟩, ⟨by decide, by decide, by decide⟩,
    ⟨rfl, rfl, rfl, rfl, rfl, nofun, rfl, nofun, rfl, rfl, rfl, rfl, rfl⟩⟩

end Sys2Proof.Tests
end

/-! ## The Scanner's registers and the push of a report -/

section
/-! One rule for every Scanner and decoder operation but the retry: it writes registers, then hands the report it forwards,
if any, to `PUSH` (`40_sampler.md` R125). -/

namespace Sys2Proof.Machine

open Sys2Proof

/-- The state with the Scanner's four registers written: `acc`, the flags, `shift_evt` and `pending` (`10_state.md` R30). -/
def State.withRegs (s : State) (a : BitVec 8) (v : ShiftState) (b : Bool) (p : Pending) : State :=
  (((s.withAcc a).withShift v).withShiftEvt b).withPending p

section
variable (s : State) (a : BitVec 8) (v : ShiftState) (b : Bool) (p : Pending)

@[simp] theorem withRegs_acc : (s.withRegs a v b p).acc = a := rfl
@[simp] theorem withRegs_shift : (s.withRegs a v b p).shift = v := rfl
@[simp] theorem withRegs_shiftEvt : (s.withRegs a v b p).shiftEvt = b := rfl
@[simp] theorem withRegs_pending : (s.withRegs a v b p).pending = p := rfl
@[simp] theorem withRegs_sphase : (s.withRegs a v b p).sphase = s.sphase := rfl
@[simp] theorem withRegs_hold : (s.withRegs a v b p).hold = s.hold := rfl
@[simp] theorem withRegs_relayFull : (s.withRegs a v b p).relayFull = s.relayFull := rfl
@[simp] theorem withRegs_relayData : (s.withRegs a v b p).relayData = s.relayData := rfl
@[simp] theorem withRegs_qMem : (s.withRegs a v b p).qMem = s.qMem := rfl
@[simp] theorem withRegs_qHead : (s.withRegs a v b p).qHead = s.qHead := rfl
@[simp] theorem withRegs_qCount : (s.withRegs a v b p).qCount = s.qCount := rfl
@[simp] theorem withRegs_popData : (s.withRegs a v b p).popData = s.popData := rfl
@[simp] theorem withRegs_script : (s.withRegs a v b p).script = s.script := rfl
@[simp] theorem withRegs_freeCount : (s.withRegs a v b p).freeCount = s.freeCount := rfl

end

variable {c : Config} {s : State}

/-- Hand the report to `PUSH`, if there is one. -/
def offer (c : Config) (o : Option Report) (s : State) : State :=
  match o with
  | Option.none => s
  | some w => pushReport c w s

@[simp] theorem offer_none (c : Config) (s : State) : offer c Option.none s = s := rfl

@[simp] theorem offer_some (c : Config) (w : Report) (s : State) : offer c (some w) s = pushReport c w s := rfl

/-- A push at the relay capacity of the source, every element written out. -/
theorem pushReport_eq_pushedState (hc : c.relayCap = 1) (w : Report) (s : State) :
    pushReport c w s = pushedState w s := by
  rcases pushReport_cases w hc s with ⟨hr, e⟩ | ⟨hr, e⟩
  · rw [e, pushedState, if_neg (by simp [hr])]
    rfl
  · rw [e, pushedState, if_pos hr]
    rfl

theorem afterCompose_eq_offer (c : Config) (r : Composed) (s : State) :
    afterCompose c r s = offer c r.report (s.withPending r.pending) := by
  cases h : r.report with
  | none => exact afterCompose_none h
  | some w => exact afterCompose_some h

theorem composeCycle_eq_offer (c : Config) (cls : CodeClass) (s : State) :
    composeCycle c cls s =
      offer c (composeClass c cls s.pending).report (s.withPending (composeClass c cls s.pending).pending) :=
  afterCompose_eq_offer c _ s

/-- The pending modifier after a decode cycle with these decoder results (R125). -/
def decodedPending (c : Config) (r : Decoded) (p : Pending) : Pending :=
  if runsComposer c r.code then (compose c r.code p).pending else p

theorem runsComposer_iff {code : OutputCode} :
    runsComposer c code = true ↔ c.composeOnNone = true ∨ code ≠ 0x00#8 := by
  simp [runsComposer]

theorem afterDecode_eq_offer (c : Config) (r : Decoded) (s : State) :
    afterDecode c r s =
      offer c (decodedReport c r s.pending)
        (s.withRegs s.acc r.shift (s.shiftEvt || r.evt) (decodedPending c r s.pending)) := by
  unfold afterDecode decodedReport decodedPending
  cases runsComposer c r.code with
  | true => exact composeCycle_eq_offer c _ _
  | false => rfl

/-- The operation writes registers, then hands to `PUSH` the report it forwards. -/
def OffersItsReport (c : Config) (i : Instr) (s : State) : Prop :=
  ∃ a v b p, execAt c i s = offer c (forwards c i s) (s.withRegs a v b p)

theorem decode_offersItsReport {i : Instr} {r : Decoded} (he : execAt c i s = afterDecode c r s)
    (hf : forwards c i s = decodedReport c r s.pending) : OffersItsReport c i s :=
  ⟨_, _, _, _, by rw [he, hf, afterDecode_eq_offer]⟩

theorem compose_offersItsReport {i : Instr} {cls : CodeClass} (he : execAt c i s = composeCycle c cls s)
    (hf : forwards c i s = (composeClass c cls s.pending).report) : OffersItsReport c i s :=
  ⟨s.acc, s.shift, s.shiftEvt, _, by rw [he, hf, composeCycle_eq_offer]; rfl⟩

theorem completedChord_eq_some {swN : BitVec 8} (hp : s.sphase = .idle) (hs : ~~~swN = 0x00#8) (ha : s.acc ≠ 0x00#8) :
    completedChord swN s = some s.acc := by
  simp [completedChord, hp, hs, ha]

theorem completedChord_eq_none {swN : BitVec 8} (h : s.sphase = .stalled ∨ ~~~swN ≠ 0x00#8 ∨ s.acc = 0x00#8) :
    completedChord swN s = none := by
  rcases h with h | h | h <;> simp [completedChord, h]

theorem forwards_scanTick_of_none {swN : BitVec 8} (h : completedChord swN s = none) :
    forwards c (.scanTick swN) s = none := by
  simp [forwards, h]

theorem scanTick_offersItsReport (hm : c.maskW = 8) (swN : BitVec 8) (s : State) :
    OffersItsReport c (.scanTick swN) s := by
  unfold OffersItsReport
  rcases scanTick_cases c swN s with ⟨hp, e⟩ | ⟨-, hs, e⟩ | ⟨hp, hs, ha, e⟩ | ⟨-, -, ha, e⟩
  · rw [forwards_scanTick_of_none (completedChord_eq_none (.inl hp))]
    exact ⟨s.acc, s.shift, s.shiftEvt, s.pending, e⟩
  · rw [sample_eq hm] at hs
    rw [forwards_scanTick_of_none (completedChord_eq_none (.inr (.inl hs)))]
    exact ⟨_, s.shift, s.shiftEvt, s.pending, e⟩
  · rw [sample_eq hm] at hs
    have hf : forwards c (.scanTick swN) s = decodedReport c (decodeChord c s.acc s.shift) s.pending := by
      simp [forwards, completedChord_eq_some hp hs ha]
    rw [hf]
    exact ⟨_, _, _, _, e.trans (afterDecode_eq_offer c _ _)⟩
  · rw [forwards_scanTick_of_none (completedChord_eq_none (.inr (.inr ha)))]
    exact ⟨s.acc, s.shift, s.shiftEvt, s.pending, e⟩

/-- Every Scanner and decoder operation but the retry writes registers, then pushes what it forwards. -/
theorem scanner_offersItsReport (hm : c.maskW = 8) {i : Instr} (s : State)
    (ho : opOwner i = .scanner ∨ opOwner i = .decoder) (hr : i ≠ .retryPush) : OffersItsReport c i s := by
  cases i with
  | scanTick swN => exact scanTick_offersItsReport hm swN s
  | decChar _ | decThumb _ | decNum _ | decCapsToggle | decCommand _ | decNumlockToggle | decPanicClear | decEshiftSet
  | decCountermand _ | decNop _ => exact decode_offersItsReport rfl rfl
  | compNone | compCtrlStart | compAltStart | compAltctrlStart | compGuiStart | compGuiKey | compCtrlkey _
  | compPrintable _ | compExt1 | compExt2 | compUnmapped _ => exact compose_offersItsReport rfl rfl
  | push w => exact ⟨s.acc, s.shift, s.shiftEvt, s.pending, rfl⟩
  | retryPush => exact absurd rfl hr
  | drain | pop | reset => simp [opOwner] at ho

/-! ### A forwarded report carries a key -/

/-- A report comes only from a class that is a key with a keycode of its own (R184), and is that key's report. -/
theorem composeClass_report_eq_some {cls : CodeClass} {p : Pending} {w : Report}
    (h : (composeClass c cls p).report = some w) :
    ∃ kc m, cls = .key kc m ∧ kc ≠ 0x00#8 ∧ w = keyReport c kc m p := by
  cases cls with
  | start x => simp at h
  | key kc m =>
    by_cases hk : kc = 0x00#8
    · simp [hk, composeClass_noKey] at h
    · rw [composeClass_key m p hk, Option.some.injEq] at h
      exact ⟨kc, m, rfl, hk, h.symm⟩

theorem composeClass_report_keyed (hw : c.reportW = 32) {cls : CodeClass} {p : Pending} {w : Report}
    (h : (composeClass c cls p).report = some w) : lane w 0 ≠ 0x00#8 := by
  obtain ⟨kc, m, -, hk, rfl⟩ := composeClass_report_eq_some h
  rwa [lane_zero_keyReport hw]

theorem decodedReport_keyed (hw : c.reportW = 32) {r : Decoded} {p : Pending} {w : Report}
    (h : decodedReport c r p = some w) : lane w 0 ≠ 0x00#8 := by
  rw [decodedReport, Option.ite_none_right_eq_some] at h
  exact composeClass_report_keyed hw h.2

/-- Whatever a well-formed operation forwards has a key in lane 0 (R46 clauses 2 and 3, at their source). -/
theorem forwards_keyed (hw : c.reportW = 32) {i : Instr} (hi : wellFormed c i = true) {s : State} {w : Report}
    (h : forwards c i s = some w) : lane w 0 ≠ 0x00#8 := by
  cases i with
  | scanTick swN =>
    obtain ⟨chord, -, hd⟩ := Option.bind_eq_some_iff.mp h
    exact decodedReport_keyed hw hd
  | decChar _ | decThumb _ | decNum _ | decCapsToggle | decCommand _ | decNumlockToggle | decPanicClear | decEshiftSet
  | decCountermand _ | decNop _ => exact decodedReport_keyed hw h
  | compNone | compCtrlStart | compAltStart | compAltctrlStart | compGuiStart | compGuiKey | compCtrlkey _
  | compPrintable _ | compExt1 | compExt2 | compUnmapped _ => exact composeClass_report_keyed hw h
  | push v =>
    obtain rfl : v = w := by simpa [forwards] using h
    simpa [wellFormed] using hi
  | retryPush | drain | pop | reset => simp [forwards] at h

end Sys2Proof.Machine
end

/-! ## The agents' frames, and the invariant of R46 -/

section
/-! What each agent's steps leave unchanged (`43_relay_queue.md` R230), what the queue holds after an enqueue and after a
dequeue, and the invariant of `10_state.md` R46 for every operation and every step. -/

namespace Sys2Proof.Machine

open Sys2Proof

variable {c : Config} {s : State}

/-! ### Frames -/

/-- The Reporter's and the model's own elements are the same in both states, and a word in the relay is still there: what
every Scanner operation leaves (R230). -/
structure KeepsReporterState (s t : State) : Prop where
  qMem      : t.qMem = s.qMem
  qHead     : t.qHead = s.qHead
  qCount    : t.qCount = s.qCount
  popData   : t.popData = s.popData
  relay     : s.relayFull = true → t.relayFull = true ∧ t.relayData = s.relayData
  script    : t.script = s.script
  freeCount : t.freeCount = s.freeCount

/-- The Scanner's and the model's own elements and the relay word are the same in both states, and an empty relay is still
empty: what every Reporter operation leaves (R230). -/
structure KeepsScannerState (s t : State) : Prop where
  acc       : t.acc = s.acc
  shift     : t.shift = s.shift
  shiftEvt  : t.shiftEvt = s.shiftEvt
  pending   : t.pending = s.pending
  sphase    : t.sphase = s.sphase
  hold      : t.hold = s.hold
  relayData : t.relayData = s.relayData
  relayFull : s.relayFull = false → t.relayFull = false
  script    : t.script = s.script
  freeCount : t.freeCount = s.freeCount

theorem KeepsReporterState.refl (s : State) : KeepsReporterState s s :=
  ⟨rfl, rfl, rfl, rfl, fun h => ⟨h, rfl⟩, rfl, rfl⟩

theorem KeepsScannerState.refl (s : State) : KeepsScannerState s s :=
  ⟨rfl, rfl, rfl, rfl, rfl, rfl, rfl, id, rfl, rfl⟩

theorem offer_withRegs_keepsReporterState (hc : c.relayCap = 1) (o : Option Report) (s : State) (a : BitVec 8)
    (v : ShiftState) (b : Bool) (p : Pending) : KeepsReporterState s (offer c o (s.withRegs a v b p)) := by
  cases o with
  | none => exact ⟨rfl, rfl, rfl, rfl, fun h => ⟨h, rfl⟩, rfl, rfl⟩
  | some w =>
    rcases pushReport_cases w hc (s.withRegs a v b p) with ⟨hr, e⟩ | ⟨-, e⟩ <;> rw [offer_some, e]
    · exact ⟨rfl, rfl, rfl, rfl, fun h => absurd (hr.symm.trans h) (by decide), rfl, rfl⟩
    · exact ⟨rfl, rfl, rfl, rfl, fun h => ⟨h, rfl⟩, rfl, rfl⟩

theorem retry_keepsReporterState (hc : c.relayCap = 1) (s : State) : KeepsReporterState s (retry c s) := by
  rcases retry_cases hc s with ⟨-, hr, e⟩ | ⟨-, e⟩ <;> rw [e]
  · exact ⟨rfl, rfl, rfl, rfl, fun h => absurd (hr.symm.trans h) (by decide), rfl, rfl⟩
  · exact .refl s

theorem drainRelay_keepsScannerState (c : Config) (s : State) : KeepsScannerState s (drainRelay c s) := by
  rcases drainRelay_cases c s with ⟨-, e⟩ | ⟨-, e⟩ <;> rw [e]
  · by_cases hn : s.relayTaken.qCount < c.queueCap
    · rw [enqueue_room _ hn]
      exact ⟨rfl, rfl, rfl, rfl, rfl, rfl, rfl, fun _ => rfl, rfl, rfl⟩
    · rw [enqueue_full _ hn]
      exact ⟨rfl, rfl, rfl, rfl, rfl, rfl, rfl, fun _ => rfl, rfl, rfl⟩
  · exact .refl s

theorem dequeue_keepsScannerState (c : Config) (s : State) : KeepsScannerState s (dequeue c s) := by
  by_cases hn : 0 < s.qCount
  · rw [dequeue_some hn]
    exact ⟨rfl, rfl, rfl, rfl, rfl, rfl, rfl, id, rfl, rfl⟩
  · rw [dequeue_empty (by omega)]
    exact ⟨rfl, rfl, rfl, rfl, rfl, rfl, rfl, id, rfl, rfl⟩

/-- A Scanner or decoder operation leaves the Reporter's state. -/
theorem execAt_keepsReporterState (hm : c.maskW = 8) (hc : c.relayCap = 1) {i : Instr} (s : State)
    (ho : opOwner i = .scanner ∨ opOwner i = .decoder) : KeepsReporterState s (execAt c i s) := by
  by_cases hr : i = .retryPush
  · subst hr
    exact retry_keepsReporterState hc s
  · obtain ⟨a, v, b, p, e⟩ := scanner_offersItsReport hm s ho hr
    rw [e]
    exact offer_withRegs_keepsReporterState hc _ s a v b p

/-- The Reporter's operations are the drain and the pop. -/
theorem opOwner_eq_reporter_iff {i : Instr} : opOwner i = .reporter ↔ i = .drain ∨ i = .pop := by
  cases i <;> simp [opOwner]

theorem opOwner_eq_all_iff {i : Instr} : opOwner i = .all ↔ i = .reset := by
  cases i <;> simp [opOwner]

/-- A Reporter operation leaves the Scanner's state. -/
theorem execAt_keepsScannerState {i : Instr} (c : Config) (s : State) (ho : opOwner i = .reporter) :
    KeepsScannerState s (execAt c i s) := by
  rcases opOwner_eq_reporter_iff.mp ho with rfl | rfl
  · exact drainRelay_keepsScannerState c s
  · exact dequeue_keepsScannerState c s

/-! ### What the queue holds -/

/-- Two offsets into the queue's window that fall on the same slot are the same. -/
theorem add_mod_inj {h i j n : Nat} (hi : i < n) (hj : j < n) (e : (h + i) % n = (h + j) % n) : i = j :=
  Nat.ModEq.eq_of_lt_of_lt (Nat.ModEq.add_left_cancel' h e) hi hj

/-- Where there is room the enqueued word becomes the youngest live entry (R224). -/
theorem liveEntries_enqueue_room (w : Report) (h : s.QueueShape c) (hn : s.qCount < c.queueCap) :
    liveEntries c (enqueue c w s) = liveEntries c s ++ [w] := by
  have hlen : ∀ k, (s.qHead + k) % c.queueCap < s.qMem.length := fun k => by
    rw [h.mem_length]
    exact Nat.mod_lt _ (Nat.zero_lt_of_lt h.head_lt)
  have hold : ∀ k ∈ List.range s.qCount,
      (s.withSlot (enqSlot c s) w).slot ((s.qHead + k) % c.queueCap) = s.slot ((s.qHead + k) % c.queueCap) := by
    intro k hk
    have hk : k < s.qCount := List.mem_range.mp hk
    rw [slot_withSlot _ _ _ (hlen k), if_neg]
    exact fun e => absurd (add_mod_inj hn (hk.trans hn) e) (by omega)
  have hnew : (s.withSlot (enqSlot c s) w).slot ((s.qHead + s.qCount) % c.queueCap) = w := by
    rw [slot_withSlot _ _ _ (hlen _)]
    exact if_pos rfl
  rw [enqueue_room w hn]
  calc liveEntries c ((s.withSlot (enqSlot c s) w).withWindow s.qHead (s.qCount + 1))
      = (List.range (s.qCount + 1)).map fun k =>
          (s.withSlot (enqSlot c s) w).slot ((s.qHead + k) % c.queueCap) := rfl
    _ = liveEntries c s ++ [w] := by
        rw [List.range_succ, List.map_append, List.map_congr_left hold, List.map_singleton, hnew, liveEntries]

/-- A queue that holds something holds the word at its head, then what a dequeue leaves (R226). -/
theorem liveEntries_eq_cons_dequeue (h : s.QueueShape c) (hn : 0 < s.qCount) :
    liveEntries c s = s.slot s.qHead :: liveEntries c (dequeue c s) := by
  obtain ⟨n, hq⟩ : ∃ n, s.qCount = n + 1 := ⟨s.qCount - 1, by omega⟩
  have hslot : ∀ k, s.slot (((s.qHead + 1) % c.queueCap + k) % c.queueCap) = s.slot ((s.qHead + (k + 1)) % c.queueCap) :=
    fun k => by rw [Nat.mod_add_mod, Nat.add_assoc, Nat.add_comm 1 k]
  calc liveEntries c s
      = s.slot ((s.qHead + 0) % c.queueCap) ::
          (List.range n).map (fun k => s.slot ((s.qHead + (k + 1)) % c.queueCap)) := by
        rw [liveEntries, hq, List.range_succ_eq_map, List.map_cons, List.map_map]
        rfl
    _ = s.slot s.qHead :: liveEntries c (dequeue c s) := by
        rw [Nat.add_zero, Nat.mod_eq_of_lt h.head_lt, dequeue_some hn, liveEntries, withWindow_qCount, hq,
          Nat.add_sub_cancel]
        exact congrArg _ (List.map_congr_left fun k _ => (hslot k).symm)

/-- With no count there is no live entry. -/
theorem liveEntries_eq_nil (h : s.qCount = 0) : liveEntries c s = [] := by
  simp [liveEntries, h]

/-! ### The invariant -/

/-- The invariant reads the queue, the relay and the held word: a state with the same ones has it too. -/
theorem State.WF.congr {t : State} (h : s.WF c) (hm : t.qMem = s.qMem) (hh : t.qHead = s.qHead)
    (hn : t.qCount = s.qCount) (hf : t.relayFull = s.relayFull) (hd : t.relayData = s.relayData)
    (hp : t.sphase = s.sphase) (hw : t.hold = s.hold) : t.WF c where
  shape := ⟨hm ▸ h.shape.mem_length, hh ▸ h.shape.head_lt, hn ▸ h.shape.count_le⟩
  live_keyed := liveEntries_congr hm hh hn ▸ h.live_keyed
  relay_keyed := by rw [hf, hd]; exact h.relay_keyed
  hold_keyed := by rw [hp, hw]; exact h.hold_keyed

theorem withRegs_keeps_wf (a : BitVec 8) (v : ShiftState) (b : Bool) (p : Pending) (h : s.WF c) :
    (s.withRegs a v b p).WF c := h.congr rfl rfl rfl rfl rfl rfl rfl

theorem withScript_keeps_wf (lines : List Line) (h : s.WF c) : (s.withScript lines).WF c :=
  h.congr rfl rfl rfl rfl rfl rfl rfl

theorem relayPut_keeps_wf {w : Report} (hw : lane w 0 ≠ 0x00#8) (h : s.WF c) : (s.relayPut w).WF c :=
  ⟨⟨h.shape.mem_length, h.shape.head_lt, h.shape.count_le⟩, h.live_keyed, fun _ => hw, h.hold_keyed⟩

theorem stalledWith_keeps_wf {w : Report} (hw : lane w 0 ≠ 0x00#8) (h : s.WF c) : (s.stalledWith w).WF c :=
  ⟨⟨h.shape.mem_length, h.shape.head_lt, h.shape.count_le⟩, h.live_keyed, h.relay_keyed, fun _ => hw⟩

theorem resumed_keeps_wf (h : s.WF c) : s.resumed.WF c :=
  ⟨⟨h.shape.mem_length, h.shape.head_lt, h.shape.count_le⟩, h.live_keyed, h.relay_keyed, nofun⟩

theorem relayTaken_keeps_wf (h : s.WF c) : s.relayTaken.WF c :=
  ⟨⟨h.shape.mem_length, h.shape.head_lt, h.shape.count_le⟩, h.live_keyed, nofun, h.hold_keyed⟩

theorem offer_keeps_wf (hc : c.relayCap = 1) {o : Option Report} (ho : ∀ w, o = some w → lane w 0 ≠ 0x00#8)
    (h : s.WF c) : (offer c o s).WF c := by
  cases o with
  | none => exact h
  | some w =>
    rcases pushReport_cases w hc s with ⟨-, e⟩ | ⟨-, e⟩ <;> rw [offer_some, e]
    · exact relayPut_keeps_wf (ho w rfl) h
    · exact stalledWith_keeps_wf (ho w rfl) h

theorem retry_keeps_wf (hc : c.relayCap = 1) (h : s.WF c) : (retry c s).WF c := by
  rcases retry_cases hc s with ⟨hp, -, e⟩ | ⟨-, e⟩ <;> rw [e]
  · exact resumed_keeps_wf (relayPut_keeps_wf (h.hold_keyed hp) h)
  · exact h

theorem enqueue_keeps_wf {w : Report} (hw : lane w 0 ≠ 0x00#8) (h : s.WF c) : (enqueue c w s).WF c := by
  by_cases hn : s.qCount < c.queueCap
  · have hlive : ∀ v ∈ liveEntries c (enqueue c w s), lane v 0 ≠ 0x00#8 := by
      rw [liveEntries_enqueue_room w h.shape hn]
      exact List.forall_mem_append.mpr ⟨h.live_keyed, List.forall_mem_singleton.mpr hw⟩
    refine ⟨enqueue_keeps_shape w h.shape, hlive, ?_, ?_⟩ <;> rw [enqueue_room w hn]
    · exact h.relay_keyed
    · exact h.hold_keyed
  · rwa [enqueue_full w hn]

theorem drainRelay_keeps_wf (h : s.WF c) : (drainRelay c s).WF c := by
  rcases drainRelay_cases c s with ⟨hr, e⟩ | ⟨-, e⟩ <;> rw [e]
  · exact enqueue_keeps_wf (h.relay_keyed hr) (relayTaken_keeps_wf h)
  · exact h

theorem dequeue_keeps_wf (h : s.WF c) : (dequeue c s).WF c := by
  by_cases hn : 0 < s.qCount
  · have hlive : ∀ v ∈ liveEntries c (dequeue c s), lane v 0 ≠ 0x00#8 := fun v hv =>
      h.live_keyed v (liveEntries_eq_cons_dequeue h.shape hn ▸ List.mem_cons_of_mem _ hv)
    refine ⟨dequeue_keeps_shape h.shape, hlive, ?_, ?_⟩ <;> rw [dequeue_some hn]
    · exact h.relay_keyed
    · exact h.hold_keyed
  · rw [dequeue_empty (by omega)]
    exact h.congr rfl rfl rfl rfl rfl rfl rfl

/-- The state of a reset has the invariant: an empty queue and relay and an idle Scanner. -/
theorem State.WF.of_empty (hs : s.QueueShape c) (hn : s.qCount = 0) (hr : s.relayFull = false) (hp : s.sphase = .idle) :
    s.WF c :=
  ⟨hs, by simp [liveEntries_eq_nil hn], by simp [hr], by simp [hp]⟩

theorem resetBlock_has_wf (hc : 1 ≤ c.queueCap) (s : State) : (resetBlock c s).WF c :=
  .of_empty (resetBlock_has_shape hc) rfl rfl rfl

theorem resetAt_has_wf (hc : 1 ≤ c.queueCap) : (State.resetAt c).WF c :=
  .of_empty ⟨List.length_replicate, hc, Nat.zero_le _⟩ rfl rfl rfl

/-- Every operation whose operands its encoding admits keeps the invariant. -/
theorem execAt_keeps_wf (hc : c.WF) {i : Instr} (hi : wellFormed c i = true) (h : s.WF c) : (execAt c i s).WF c := by
  have scanner (ho : opOwner i = .scanner ∨ opOwner i = .decoder) (hr : i ≠ .retryPush) : (execAt c i s).WF c := by
    obtain ⟨a, v, b, p, e⟩ := scanner_offersItsReport hc.mask_w s ho hr
    rw [e]
    exact offer_keeps_wf hc.relay_cap (fun _ => forwards_keyed hc.report_w hi) (withRegs_keeps_wf a v b p h)
  cases ho : opOwner i with
  | scanner =>
    by_cases hr : i = .retryPush
    · subst hr
      exact retry_keeps_wf hc.relay_cap h
    · exact scanner (.inl ho) hr
  | decoder => exact scanner (.inr ho) (by rintro rfl; simp [opOwner] at ho)
  | reporter =>
    rcases opOwner_eq_reporter_iff.mp ho with rfl | rfl
    · exact drainRelay_keeps_wf h
    · exact dequeue_keeps_wf h
  | all =>
    obtain rfl := opOwner_eq_all_iff.mp ho
    exact resetBlock_has_wf hc.queue_nonempty s

end Sys2Proof.Machine
end

/-! ## The encodings read back -/

section
/-! The Mods and Fset of a composed chord (`30_encoding.md` R90), what each decoder selects (`41_decoder.md` R142,
`42_composer.md` R181), and decode after encode. -/

namespace Sys2Proof.Machine

open Sys2Proof

variable {c : Config}

/-! ### The modifier field -/

/-- The mask bits of the four modifier switches, in the order of R90. -/
def modBits (c : Config) : List Nat := [c.modBitThumb, c.modBitCaps, c.modBitNum, c.modBitRepeat]

theorem modBits_perm (hc : c.WF) : (modBits c).Perm [4, 5, 6, 7] := by
  have h := hc.mods_on_field
  rw [hc.mods_bits] at h
  exact h

/-- The four switches drive four different bits of the mask. -/
theorem modBits_nodup (hc : c.WF) : (modBits c).Nodup := (modBits_perm hc).nodup_iff.mpr (by decide)

/-- Every modifier switch drives a bit above the finger field. -/
theorem modBits_range (hc : c.WF) {n : Nat} (hn : n ∈ modBits c) : 4 ≤ n ∧ n < 8 := by
  have h : n ∈ [4, 5, 6, 7] := (modBits_perm hc).subset hn
  simp only [List.mem_cons, List.not_mem_nil, or_false] at h
  omega

/-- The placement of the modifier switches, written out: bits 4 to 7, all different. -/
theorem modBits_placed (hc : c.WF) :
    (4 ≤ c.modBitThumb ∧ c.modBitThumb < 8) ∧ (4 ≤ c.modBitCaps ∧ c.modBitCaps < 8) ∧
    (4 ≤ c.modBitNum ∧ c.modBitNum < 8) ∧ (4 ≤ c.modBitRepeat ∧ c.modBitRepeat < 8) ∧
    c.modBitThumb ≠ c.modBitCaps ∧ c.modBitThumb ≠ c.modBitNum ∧ c.modBitThumb ≠ c.modBitRepeat ∧
    c.modBitCaps ≠ c.modBitNum ∧ c.modBitCaps ≠ c.modBitRepeat ∧ c.modBitNum ≠ c.modBitRepeat := by
  have hd : (c.modBitThumb ≠ c.modBitCaps ∧ c.modBitThumb ≠ c.modBitNum ∧ c.modBitThumb ≠ c.modBitRepeat) ∧
      (c.modBitCaps ≠ c.modBitNum ∧ c.modBitCaps ≠ c.modBitRepeat) ∧ c.modBitNum ≠ c.modBitRepeat := by
    simpa [modBits] using modBits_nodup hc
  obtain ⟨⟨hTC, hTN, hTR⟩, ⟨hCN, hCR⟩, hNR⟩ := hd
  have range (n : Nat) (hn : n ∈ modBits c) : 4 ≤ n ∧ n < 8 := modBits_range hc hn
  exact ⟨range _ (by simp [modBits]), range _ (by simp [modBits]), range _ (by simp [modBits]),
    range _ (by simp [modBits]), hTC, hTN, hTR, hCN, hCR, hNR⟩

theorem getLsbD_modBit (pressed : Bool) {n i : Nat} (hi : i < 8) :
    (modBit pressed n).getLsbD i = (pressed && decide (i = n)) := by
  cases pressed with
  | false => simp [modBit]
  | true =>
    simp only [modBit, if_true, BitVec.getLsbD_shiftLeft, BitVec.getLsbD_one, hi]
    by_cases h : i = n
    · simp [h]
    · simp [h]
      omega

/-- Each bit of a composed chord: the finger bits below 4, a modifier's state at the bit its switch drives. -/
theorem getLsbD_chordOf (hc : c.WF) (m : Mods) (f : Fset) {i : Nat} (hi : i < 8) :
    (chordOf c m f).getLsbD i =
      (f.getLsbD i || m.getLsbD 0 && decide (i = c.modBitThumb) || m.getLsbD 1 && decide (i = c.modBitCaps) ||
        m.getLsbD 2 && decide (i = c.modBitNum) || m.getLsbD 3 && decide (i = c.modBitRepeat)) := by
  simp only [chordOf, hc.fset_bits, BitVec.shiftLeft_zero, BitVec.getLsbD_or, BitVec.getLsbD_setWidth,
    getLsbD_modBit _ hi, hi, decide_true, Bool.true_and]

theorem fset_chordOf (hc : c.WF) (m : Mods) (f : Fset) : fset c (chordOf c m f) = f := by
  obtain ⟨⟨hT, -⟩, ⟨hC, -⟩, ⟨hN, -⟩, ⟨hR, -⟩, -⟩ := modBits_placed hc
  rw [fset_eq hc.fset_bits]
  apply BitVec.eq_of_getLsbD_eq
  intro i hi
  have hbit : (chordOf c m f).getLsbD i = f.getLsbD i := by
    rw [getLsbD_chordOf hc m f (by omega), decide_eq_false (by omega : i ≠ c.modBitThumb),
      decide_eq_false (by omega : i ≠ c.modBitCaps), decide_eq_false (by omega : i ≠ c.modBitNum),
      decide_eq_false (by omega : i ≠ c.modBitRepeat)]
    simp
  simp [hi, hbit]

/-- The Mods of a mask are the mask's bits that the four switches drive (R141). -/
theorem getLsbD_mods (c : Config) (mask : ChordMask) :
    (mods c mask).getLsbD 0 = mask.getLsbD c.modBitThumb ∧ (mods c mask).getLsbD 1 = mask.getLsbD c.modBitCaps ∧
    (mods c mask).getLsbD 2 = mask.getLsbD c.modBitNum ∧ (mods c mask).getLsbD 3 = mask.getLsbD c.modBitRepeat := by
  have bits : ∀ t k n r : Bool, ∀ m : Mods, m = BitVec.ofBool r ++ BitVec.ofBool n ++ BitVec.ofBool k ++ BitVec.ofBool t →
      m.getLsbD 0 = t ∧ m.getLsbD 1 = k ∧ m.getLsbD 2 = n ∧ m.getLsbD 3 = r := by
    rintro t k n r m rfl
    revert t k n r
    decide
  exact bits _ _ _ _ _ rfl

theorem mods_eq_iff (mask : ChordMask) (m : Mods) :
    mods c mask = m ↔
      mask.getLsbD c.modBitThumb = m.getLsbD 0 ∧ mask.getLsbD c.modBitCaps = m.getLsbD 1 ∧
      mask.getLsbD c.modBitNum = m.getLsbD 2 ∧ mask.getLsbD c.modBitRepeat = m.getLsbD 3 := by
  obtain ⟨hT, hC, hN, hR⟩ := getLsbD_mods c mask
  rw [← hT, ← hC, ← hN, ← hR]
  refine ⟨by rintro rfl; exact ⟨rfl, rfl, rfl, rfl⟩, fun ⟨h0, h1, h2, h3⟩ => BitVec.eq_of_getLsbD_eq fun i hi => ?_⟩
  interval_cases i
  exacts [h0, h1, h2, h3]

theorem mods_chordOf (hc : c.WF) (m : Mods) (f : Fset) : mods c (chordOf c m f) = m := by
  obtain ⟨⟨hT, hT'⟩, ⟨hC, hC'⟩, ⟨hN, hN'⟩, ⟨hR, hR'⟩, hTC, hTN, hTR, hCN, hCR, hNR⟩ := modBits_placed hc
  rw [mods_eq_iff, getLsbD_chordOf hc m f hT', getLsbD_chordOf hc m f hC', getLsbD_chordOf hc m f hN',
    getLsbD_chordOf hc m f hR']
  simp [BitVec.getLsbD_of_ge f _ hT, BitVec.getLsbD_of_ge f _ hC, BitVec.getLsbD_of_ge f _ hN,
    BitVec.getLsbD_of_ge f _ hR, hTC, hTN, hTR, hCN, hCR, hNR, hTC.symm, hTN.symm, hTR.symm, hCN.symm, hCR.symm, hNR.symm]

theorem chordOf_inj (hc : c.WF) {m m' : Mods} {f f' : Fset} : chordOf c m f = chordOf c m' f' ↔ m = m' ∧ f = f' := by
  refine ⟨fun h => ⟨?_, ?_⟩, by rintro ⟨rfl, rfl⟩; rfl⟩
  · rw [← mods_chordOf hc m f, h, mods_chordOf hc]
  · rw [← fset_chordOf hc m f, h, fset_chordOf hc]

/-! ### What a ChordMask selects -/

/-- The branch a composed chord selects, by its Mods and Fset: the case table of R142 with the whole-mask values of R91
written as their fields. -/
theorem chordInstr_chordOf (hc : c.WF) (m : Mods) (f : Fset) :
    chordInstr c (chordOf c m f) =
      if m = 0b0000#4 ∧ f ≠ 0#4 then .decChar f
      else if m = 0b0001#4 then .decThumb f
      else if m = 0b0100#4 ∧ f ≠ 0#4 then .decNum f
      else if m = 0b0010#4 ∧ f = 0#4 then .decCapsToggle
      else if m = 0b0010#4 ∧ f ≠ 0#4 then .decCommand f
      else if m = 0b0101#4 ∧ f = 0#4 then .decNumlockToggle
      else if m = 0b0011#4 ∧ f = 0#4 then .decPanicClear
      else if m = 0b0110#4 ∧ f = 0#4 then .decEshiftSet
      else if m = 0b0110#4 ∧ f ≠ 0#4 then .decCountermand f
      else .decNop (chordOf c m f) := by
  simp only [chordInstr, capsAlone, thumbNumAlone, thumbCapsAlone, numCapsAlone, mods_chordOf hc, fset_chordOf hc,
    chordOf_inj hc]

/-- No named branch takes the mask exactly when every condition of R142 fails (R156). -/
theorem isNopMask_iff {mask : ChordMask} :
    isNopMask c mask = true ↔
      ¬(mods c mask = 0b0000#4 ∧ fset c mask ≠ 0#4) ∧ mods c mask ≠ 0b0001#4 ∧
      ¬(mods c mask = 0b0100#4 ∧ fset c mask ≠ 0#4) ∧ mask ≠ capsAlone c ∧
      ¬(mods c mask = 0b0010#4 ∧ fset c mask ≠ 0#4) ∧ mask ≠ thumbNumAlone c ∧ mask ≠ thumbCapsAlone c ∧
      mask ≠ numCapsAlone c ∧ ¬(mods c mask = 0b0110#4 ∧ fset c mask ≠ 0#4) := by
  simp [isNopMask, branchTests, imp_iff_not_or]

theorem chordInstr_of_isNopMask {mask : ChordMask} (h : isNopMask c mask = true) :
    chordInstr c mask = .decNop mask := by
  obtain ⟨hchar, hthumb, hnum, hcaps, hcmd, hnl, hpanic, heshift, hctm⟩ := isNopMask_iff.mp h
  rw [chordInstr, if_neg hchar, if_neg hthumb, if_neg hnum, if_neg hcaps, if_neg hcmd, if_neg hnl, if_neg hpanic,
    if_neg heshift, if_neg hctm]

/-- A selection by one condition is well-formed if each side is where it is taken. -/
theorem wellFormed_ite {P : Prop} [Decidable P] {i j : Instr} (hi : P → wellFormed c i = true)
    (hj : ¬P → wellFormed c j = true) : wellFormed c (if P then i else j) = true :=
  iteInduction (motive := fun k => wellFormed c k = true) hi hj

/-- The operation a mask selects is well-formed: its operand met the branch's condition. -/
theorem chordInstr_wellFormed (c : Config) (mask : ChordMask) : wellFormed c (chordInstr c mask) = true := by
  unfold chordInstr
  refine wellFormed_ite (fun h => by simpa [wellFormed] using h.2) fun hchar => ?_
  refine wellFormed_ite (fun _ => rfl) fun hthumb => ?_
  refine wellFormed_ite (fun h => by simpa [wellFormed] using h.2) fun hnum => ?_
  refine wellFormed_ite (fun _ => rfl) fun hcaps => ?_
  refine wellFormed_ite (fun h => by simpa [wellFormed] using h.2) fun hcmd => ?_
  refine wellFormed_ite (fun _ => rfl) fun hnl => wellFormed_ite (fun _ => rfl) fun hpanic => ?_
  refine wellFormed_ite (fun _ => rfl) fun heshift => ?_
  refine wellFormed_ite (fun h => by simpa [wellFormed] using h.2) fun hctm => ?_
  exact isNopMask_iff.mpr ⟨hchar, hthumb, hnum, hcaps, hcmd, hnl, hpanic, heshift, hctm⟩

/-! ### What an OutputCode selects -/

/-- The code is no assigned code exactly when it is none of the five named ones and no control key (R95). -/
theorem not_mem_assignedCodes_iff {code : OutputCode} :
    code ∉ assignedCodes c ↔
      code ≠ c.codeCtrlStart ∧ code ≠ c.codeAltStart ∧ code ≠ c.codeAltctrlStart ∧ code ≠ c.codeGuiStart ∧
      code ≠ c.codeGuiKey ∧ code ∉ c.ctrlKeys := by
  simp [assignedCodes]

/-- The code is unmapped exactly when no row of R185 to R194 takes it (R195). -/
theorem isUnmapped_iff {code : OutputCode} :
    isUnmapped c code = true ↔
      code ≠ 0x00#8 ∧ code ∉ assignedCodes c ∧ isPrintable code = false ∧ code ≠ c.ext1Code ∧ code ≠ c.ext2Code := by
  simp [isUnmapped, and_assoc]

theorem assigned_ne_none (hc : c.WF) {code : OutputCode} (h : code ∈ assignedCodes c) : code ≠ 0x00#8 := by
  have hr := (hc.codes_in_range code h).1
  bv_omega

theorem printable_ne_none {code : OutputCode} (h : isPrintable code = true) : code ≠ 0x00#8 := by
  rintro rfl
  exact absurd h (by decide)

theorem printable_not_assigned (hc : c.WF) {code : OutputCode} (h : isPrintable code = true) :
    code ∉ assignedCodes c := by
  intro hm
  have hr := (hc.codes_in_range code hm).2
  simp only [isPrintable, Bool.and_eq_true, decide_eq_true_eq] at h
  bv_omega

/-- A code from `0x80` up, where the currency codes lie (R10), is none of the others. -/
theorem ext_is_other (hc : c.WF) {code : OutputCode} (h : 0x80#8 ≤ code) :
    code ≠ 0x00#8 ∧ code ∉ assignedCodes c ∧ isPrintable code = false := by
  refine ⟨by bv_omega, fun hm => ?_, ?_⟩
  · have hr := (hc.codes_in_range code hm).2
    bv_omega
  · simp only [isPrintable, Bool.and_eq_false_iff, decide_eq_false_iff_not]
    exact .inr (by bv_omega)

/-- A code that is neither NONE nor assigned is printable, a currency code or unmapped (R181). -/
theorem codeInstr_of_not_assigned {code : OutputCode} (h0 : code ≠ 0x00#8) (ha : code ∉ assignedCodes c) :
    codeInstr c code =
      if isPrintable code then .compPrintable code
      else if code = c.ext1Code then .compExt1
      else if code = c.ext2Code then .compExt2
      else .compUnmapped code := by
  obtain ⟨hctrl, halt, haltctrl, hgui, hkey, hkeys⟩ := not_mem_assignedCodes_iff.mp ha
  rw [codeInstr, if_neg h0, if_neg hctrl, if_neg halt, if_neg haltctrl, if_neg hgui, if_neg hkey,
    if_neg (by simpa using hkeys)]

/-- The operation a code selects is well-formed: its operand met the row's condition. -/
theorem codeInstr_wellFormed (c : Config) (code : OutputCode) : wellFormed c (codeInstr c code) = true := by
  unfold codeInstr
  refine wellFormed_ite (fun _ => rfl) fun h0 => wellFormed_ite (fun _ => rfl) fun hctrl => ?_
  refine wellFormed_ite (fun _ => rfl) fun halt => wellFormed_ite (fun _ => rfl) fun haltctrl => ?_
  refine wellFormed_ite (fun _ => rfl) fun hgui => wellFormed_ite (fun _ => rfl) fun hkey => ?_
  refine wellFormed_ite id fun hkeys => wellFormed_ite id fun hprint => ?_
  refine wellFormed_ite (fun _ => rfl) fun hext1 => wellFormed_ite (fun _ => rfl) fun hext2 => ?_
  have ha : code ∉ assignedCodes c :=
    not_mem_assignedCodes_iff.mpr ⟨hctrl, halt, haltctrl, hgui, hkey, by simpa using hkeys⟩
  exact isUnmapped_iff.mpr ⟨h0, ha, Bool.eq_false_iff.mpr hprint, hext1, hext2⟩

/-- The assigned codes are told apart (R10): the five named ones differ, and none of them is a control key. -/
theorem assigned_distinct (hc : c.WF) :
    [c.codeCtrlStart, c.codeAltStart, c.codeAltctrlStart, c.codeGuiStart, c.codeGuiKey].Nodup ∧
      ∀ code ∈ c.ctrlKeys, code ∉ [c.codeCtrlStart, c.codeAltStart, c.codeAltctrlStart, c.codeGuiStart, c.codeGuiKey] := by
  obtain ⟨hnamed, -, hapart⟩ := List.nodup_append.mp hc.codes_distinct
  exact ⟨hnamed, fun code hk hn => hapart code hn code hk rfl⟩

/-- Each assigned code selects the operation it is the code of. -/
theorem codeInstr_assigned (hc : c.WF) :
    codeInstr c c.codeCtrlStart = .compCtrlStart ∧ codeInstr c c.codeAltStart = .compAltStart ∧
    codeInstr c c.codeAltctrlStart = .compAltctrlStart ∧ codeInstr c c.codeGuiStart = .compGuiStart ∧
    codeInstr c c.codeGuiKey = .compGuiKey ∧ ∀ code ∈ c.ctrlKeys, codeInstr c code = .compCtrlkey code := by
  obtain ⟨hnamed, hkeys⟩ := assigned_distinct hc
  have nonzero (code : OutputCode) (h : code ∈ assignedCodes c) : code ≠ 0x00#8 := assigned_ne_none hc h
  simp only [assignedCodes, List.forall_mem_append, List.forall_mem_cons] at nonzero
  obtain ⟨⟨h1, h2, h3, h4, h5, -⟩, hk0⟩ := nonzero
  simp only [List.nodup_cons, List.mem_cons, not_or, List.not_mem_nil] at hnamed
  obtain ⟨⟨h12, h13, h14, h15, -⟩, ⟨h23, h24, h25, -⟩, ⟨h34, h35, -⟩, ⟨h45, -⟩, -⟩ := hnamed
  refine ⟨?_, ?_, ?_, ?_, ?_, fun code hk => ?_⟩
  · rw [codeInstr, if_neg h1, if_pos rfl]
  · rw [codeInstr, if_neg h2, if_neg (Ne.symm h12), if_pos rfl]
  · rw [codeInstr, if_neg h3, if_neg (Ne.symm h13), if_neg (Ne.symm h23), if_pos rfl]
  · rw [codeInstr, if_neg h4, if_neg (Ne.symm h14), if_neg (Ne.symm h24), if_neg (Ne.symm h34), if_pos rfl]
  · rw [codeInstr, if_neg h5, if_neg (Ne.symm h15), if_neg (Ne.symm h25), if_neg (Ne.symm h35),
      if_neg (Ne.symm h45), if_pos rfl]
  · have hn := hkeys code hk
    simp only [List.mem_cons, not_or] at hn
    obtain ⟨n1, n2, n3, n4, n5, -⟩ := hn
    rw [codeInstr, if_neg (hk0 code hk), if_neg n1, if_neg n2, if_neg n3, if_neg n4, if_neg n5,
      if_pos (List.contains_iff_mem.mpr hk)]

/-! ### What a line decodes to -/

/-- A report is the pack of its four lanes (R98). -/
theorem pack_lanes (w : Report) : pack (lane w 0) (lane w 1) (lane w 2) (lane w 3) = w := by
  have join (start len₁ len₂ : Nat) : w.extractLsb' (start + len₁) len₂ ++ w.extractLsb' start len₁ =
      w.extractLsb' start (len₂ + len₁) := BitVec.extractLsb'_append_extractLsb'_eq_extractLsb' rfl
  calc pack (lane w 0) (lane w 1) (lane w 2) (lane w 3)
      = w.extractLsb' 24 8 ++ w.extractLsb' 16 8 ++ w.extractLsb' 8 8 ++ w.extractLsb' 0 8 := rfl
    _ = w.extractLsb' 0 32 := by rw [join 16 8 8, join 8 8 16, join 0 8 24]
    _ = w := BitVec.extractLsb'_eq_self

theorem reportOfBytes_lanes (w : Report) : reportOfBytes (lane w 0) (lane w 1) (lane w 2) (lane w 3) = w :=
  pack_lanes w

/-- A line of the format `chordMask` decodes to the branch its mask selects. -/
theorem decodeLine_chordLine (c : Config) (mask : ChordMask) :
    decodeLine c (chordLine mask) = .ok (chordInstr c mask) := rfl

theorem decodeLine_codeLine (c : Config) (code : OutputCode) :
    decodeLine c (codeLine code) = .ok (codeInstr c code) := rfl

theorem pushInstr_eq_ok_iff {w : Report} {i : Instr} : pushInstr w = .ok i ↔ lane w 0 ≠ 0x00#8 ∧ i = .push w := by
  unfold pushInstr
  split_ifs with h <;> simp [h, eq_comm]

/-- What a line decodes to has operands its encoding admits, under every configuration. -/
theorem decodeLine_wellFormed {l : Line} {i : Instr} (h : decodeLine c l = .ok i) : wellFormed c i = true := by
  unfold decodeLine at h
  split at h
  case h_6 mask _ _ => exact Except.ok.inj h ▸ chordInstr_wellFormed c mask
  case h_7 code _ _ => exact Except.ok.inj h ▸ codeInstr_wellFormed c code
  case h_8 =>
    obtain ⟨hkey, rfl⟩ := pushInstr_eq_ok_iff.mp h
    simpa [wellFormed] using hkey
  case h_9 => cases h
  all_goals exact Except.ok.inj h ▸ rfl

/-- Decode after encode: the chords, the codes and the push read back; the events carry their operand as it is. -/
theorem decodeLine_encodeLine (hc : c.WF) {i : Instr} (hi : wellFormed c i = true) :
    decodeLine c (encodeLine c i) = .ok i := by
  have chord (m : Mods) (f : Fset) (h : chordInstr c (chordOf c m f) = i) :
      decodeLine c (chordLine (chordOf c m f)) = .ok i := congrArg Except.ok h
  have code (k : OutputCode) (h : codeInstr c k = i) : decodeLine c (codeLine k) = .ok i := congrArg Except.ok h
  obtain ⟨hctrl, halt, haltctrl, hgui, hkey, hkeys⟩ := codeInstr_assigned hc
  cases i with
  | scanTick _ | retryPush | drain | pop | reset => rfl
  | decChar f | decNum f | decCommand f | decCountermand f =>
    have hf : f ≠ 0#4 := by simpa [wellFormed] using hi
    exact chord _ f (by simp [chordInstr_chordOf hc, hf])
  | decThumb f => exact chord _ f (by simp [chordInstr_chordOf hc])
  | decCapsToggle | decNumlockToggle | decPanicClear | decEshiftSet =>
    exact chord _ 0#4 (by simp [chordInstr_chordOf hc])
  | decNop mask => exact congrArg Except.ok (chordInstr_of_isNopMask hi)
  | compNone => exact code _ (if_pos rfl)
  | compCtrlStart => exact code _ hctrl
  | compAltStart => exact code _ halt
  | compAltctrlStart => exact code _ haltctrl
  | compGuiStart => exact code _ hgui
  | compGuiKey => exact code _ hkey
  | compCtrlkey k => exact code k (hkeys k (by simpa [wellFormed] using hi))
  | compPrintable k =>
    have hp : isPrintable k = true := hi
    exact code k (by simp [codeInstr_of_not_assigned (printable_ne_none hp) (printable_not_assigned hc hp), hp])
  | compExt1 =>
    obtain ⟨h0, ha, hp⟩ := ext_is_other hc hc.exts_in_range.1
    exact code _ (by simp [codeInstr_of_not_assigned h0 ha, hp])
  | compExt2 =>
    obtain ⟨h0, ha, hp⟩ := ext_is_other hc hc.exts_in_range.2
    exact code _ (by simp [codeInstr_of_not_assigned h0 ha, hp, hc.exts_differ.symm])
  | compUnmapped k =>
    obtain ⟨h0, ha, hp, he1, he2⟩ := isUnmapped_iff.mp hi
    exact code k (by simp [codeInstr_of_not_assigned h0 ha, hp, he1, he2])
  | push w =>
    have hkey : lane w 0 ≠ 0x00#8 := by simpa [wellFormed] using hi
    exact pushInstr_eq_ok_iff.mpr ⟨by rwa [reportOfBytes_lanes], by rw [reportOfBytes_lanes]⟩

/-! ### What a step runs -/

theorem nextLine_eq_some_iff {s s1 : State} {line : Line} :
    nextLine s = some (line, s1) ↔ ∃ rest, s.script = line :: rest ∧ s1 = s.withScript rest := by
  unfold nextLine
  cases s.script with
  | nil => simp
  | cons l rest => simp [eq_comm]

/-- The internal step is a retry or a drain. -/
theorem internalStep_eq_some {s : State} {i : Instr} (h : internalStep c s = some i) : i = .retryPush ∨ i = .drain := by
  unfold internalStep at h
  split_ifs at h
  · exact .inl (Option.some.inj h).symm
  · exact .inr (Option.some.inj h).symm

/-- A step that answers a next state ran a well-formed operation, with a line served or none left, or changed nothing. -/
theorem stepAt_eq_next {s t : State} (h : stepAt c s = .next t) :
    (∃ lines i, wellFormed c i = true ∧ t = execAt c i (s.withScript lines)) ∨ t = s := by
  unfold stepAt at h
  split at h
  case h_1 line s1 hline =>
    obtain ⟨rest, -, rfl⟩ := nextLine_eq_some_iff.mp hline
    split at h
    case h_1 i hi => exact .inl ⟨rest, i, decodeLine_wellFormed hi, (Host.Outcome.next.inj h).symm⟩
    case h_2 => cases h
  case h_2 =>
    split at h
    case h_1 i hi =>
      have hwf : wellFormed c i = true := by rcases internalStep_eq_some hi with rfl | rfl <;> rfl
      exact .inl ⟨s.script, i, hwf, (Host.Outcome.next.inj h).symm⟩
    case h_2 => exact .inr (Host.Outcome.next.inj h).symm

theorem stepAt_keeps_wf (hc : c.WF) {s t : State} (h : s.WF c) (hst : stepAt c s = .next t) : t.WF c := by
  rcases stepAt_eq_next hst with ⟨lines, i, hi, rfl⟩ | rfl
  · exact execAt_keeps_wf hc hi (withScript_keeps_wf lines h)
  · exact h

/-- The decided configuration is well-formed (R9, R10, R61). -/
theorem blockConfig_wf : blockConfig.WF where
  mask_w := rfl
  fset_bits := rfl
  mods_bits := rfl
  relay_cap := rfl
  report_w := rfl
  codes_in_range := by decide
  codes_distinct := by decide
  exts_in_range := by decide
  exts_differ := by decide
  queue_nonempty := by decide
  plain_a := rfl
  mods_on_field := by decide

end Sys2Proof.Machine
end

/-! ## The obligations on the scope of the model -/

section

namespace Sys2Proof.Machine

open Sys2Proof

/-- Settles O1: chords read back by their fields, codes by the disjointness of R10, a report by its lanes. -/
theorem decodeOfEncodeIsTheOperation : Obligations.DecodeOfEncodeIsTheOperation :=
  fun _ hc _ hi => decodeLine_encodeLine hc hi

/-- Settles O58: every operation a step can run keeps the invariant (`execAt_keeps_wf`). -/
theorem stepKeepsTheInvariant : Obligations.StepKeepsTheInvariant :=
  ⟨fun _ hc _ _ h hst => stepAt_keeps_wf hc h hst,
    fun s _ h hst => stepAt_keeps_wf blockConfig_wf h (step_eq_stepAt s ▸ hst)⟩

/-- Settles O19: the cycle writes the registers, then offers what the composer answered (`afterDecode_eq_offer`). -/
theorem decodeCycleWritesItsResults : Obligations.DecodeCycleWritesItsResults := by
  intro c chord s r q hr hq
  subst hr hq
  have hcycle := afterDecode_eq_offer c (decodeChord c chord s.shift) s
  refine ⟨fun hoff hnone => ?_, fun hon => ?_⟩
  · have hskip : runsComposer c (decodeChord c chord s.shift).code = false := by simp [runsComposer, hoff, hnone]
    rw [decodeCycle, hcycle, decodedReport, decodedPending, hskip]
    rfl
  · have hrun := runsComposer_iff.mpr hon
    rw [decodedReport, decodedPending, if_pos hrun, if_pos hrun] at hcycle
    refine ⟨fun hrep => ?_, fun w hcap hrep => ?_⟩ <;> rw [decodeCycle, hcycle, hrep]
    · rfl
    · exact pushReport_eq_pushedState hcap w _

/-- Settles O40: by the class of the code; a forwarded report is its key's `keyReport`, whose lane 0 is that keycode. -/
theorem forwardedExactlyWithAnOwnKeycode : Obligations.ForwardedExactlyWithAnOwnKeycode := by
  intro c code p
  refine ⟨⟨fun h => ?_, ?_⟩, fun w hwidth h => ?_⟩
  · obtain ⟨w, hw⟩ := Option.ne_none_iff_exists'.mp h
    obtain ⟨kc, m, hcls, hk, -⟩ := composeClass_report_eq_some hw
    exact ⟨kc, m, hcls, hk⟩
  · rintro ⟨kc, m, hcls, hk⟩
    rw [compose, hcls, composeClass_key m p hk]
    exact Option.some_ne_none _
  · obtain ⟨kc, m, hcls, hk, rfl⟩ := composeClass_report_eq_some h
    have hlane : lane (keyReport c kc m p) 0 = kc := lane_zero_keyReport hwidth kc m p
    refine ⟨kc, m, hcls, hlane, by rwa [hlane], fun hzero => hk ?_⟩
    rw [← hlane, hzero]
    rfl

/-- Settles O55: by the operation's owner, from the two frames. -/
theorem agentsWriteOnlyTheirOwnState : Obligations.AgentsWriteOnlyTheirOwnState := by
  intro i s hi
  refine ⟨execAt blockConfig i s, exec_eq_execAt i s, ?_⟩
  cases ho : opOwner i with
  | all => exact absurd (opOwner_eq_all_iff.mp ho) hi
  | scanner | decoder =>
    have k : KeepsReporterState s (execAt blockConfig i s) := execAt_keepsReporterState rfl rfl s (by simp [ho])
    exact ⟨fun _ => ⟨k.qMem, k.qHead, k.qCount, k.popData, k.relay⟩, nofun, k.script, k.freeCount⟩
  | reporter =>
    have k : KeepsScannerState s (execAt blockConfig i s) := execAt_keepsScannerState blockConfig s ho
    exact ⟨fun h => absurd rfl h,
      fun _ => ⟨k.acc, k.shift, k.shiftEvt, k.pending, k.sphase, k.hold, k.relayData, k.relayFull⟩,
      k.script, k.freeCount⟩

/-- Settles O3: each of the nine lines is the encoded line of its operation, so O1 decodes it. -/
theorem wordsOfTheSpecDecode : Obligations.WordsOfTheSpecDecode := by
  have decodes {l : Line} {i : Instr} (he : encodeLine blockConfig i = l) (hi : wellFormed blockConfig i = true) :
      decodeLine blockConfig l = .ok i := he ▸ decodeLine_encodeLine blockConfig_wf hi
  exact ⟨decodes rfl rfl, decodes rfl rfl, decodes rfl rfl, decodes rfl rfl, decodes rfl rfl, decodes rfl rfl,
    decodes rfl rfl, decodes rfl rfl, decodes rfl rfl⟩

/-- Settles O6. -/
theorem blockConfigIsWellFormed : Obligations.BlockConfigIsWellFormed := blockConfig_wf

/-- Settles O59: an empty queue, an empty relay and an idle Scanner. -/
theorem resetStateHasTheInvariant : Obligations.ResetStateHasTheInvariant :=
  ⟨fun _ hc => resetAt_has_wf hc.queue_nonempty, resetAt_has_wf (c := blockConfig) blockConfig_wf.queue_nonempty⟩

end Sys2Proof.Machine
end

/-! ## The queue as a bounded FIFO -/

section
/-! What the queue holds after an enqueue and after a dequeue, with room and without (`43_relay_queue.md` R224 to R227). -/

namespace Sys2Proof.Machine

open Sys2Proof

variable {c : Config} {s : State}

/-- An enqueue appends where the live entries leave room (R224) and drops the word where they do not (R225). -/
theorem liveEntries_enqueue (w : Report) (h : s.QueueShape c) :
    liveEntries c (enqueue c w s) =
      if (liveEntries c s).length < c.queueCap then liveEntries c s ++ [w] else liveEntries c s := by
  rw [liveEntries_length]
  by_cases hn : s.qCount < c.queueCap
  · rw [if_pos hn, liveEntries_enqueue_room w h hn]
  · rw [if_neg hn, enqueue_full w hn]

/-- A dequeue leaves the tail of the live entries; an empty queue stays empty. -/
theorem liveEntries_dequeue (h : s.QueueShape c) : liveEntries c (dequeue c s) = (liveEntries c s).tail := by
  by_cases hn : 0 < s.qCount
  · rw [liveEntries_eq_cons_dequeue h hn, List.tail_cons]
  · have hzero : s.qCount = 0 := by omega
    rw [liveEntries_eq_nil hzero, dequeue_empty hzero]
    exact liveEntries_eq_nil hzero

/-- A dequeue returns the oldest live entry (R226), or the sentinel (R227). -/
theorem dequeue_popData (h : s.QueueShape c) : (dequeue c s).popData = (liveEntries c s).headD 0x00000000#32 := by
  by_cases hn : 0 < s.qCount
  · rw [liveEntries_eq_cons_dequeue h hn, List.headD_cons, dequeue_some hn, withWindow_popData, withPopData_popData]
  · have hzero : s.qCount = 0 := by omega
    rw [liveEntries_eq_nil hzero, List.headD_nil, dequeue_empty hzero, withPopData_popData]

end Sys2Proof.Machine
end

/-! ## The flags and the shift event -/

section
/-! Which operations write the flags and `shift_evt` (`10_state.md` R39, R44): a decoder branch, a tick that completes a
chord, which is the selected branch at a cleared accumulator (`40_sampler.md` R124, R125), and a reset. -/

namespace Sys2Proof.Machine

open Sys2Proof

variable {c : Config} {s : State}

/-- The flags and `shift_evt` are the same in both states. -/
structure KeepsFlags (s t : State) : Prop where
  shift    : t.shift = s.shift
  shiftEvt : t.shiftEvt = s.shiftEvt

theorem pushReport_keepsFlags (c : Config) (w : Report) (s : State) : KeepsFlags s (pushReport c w s) := by
  unfold pushReport
  split <;> exact ⟨rfl, rfl⟩

theorem offer_keepsFlags (c : Config) (o : Option Report) (s : State) : KeepsFlags s (offer c o s) := by
  cases o with
  | none => exact ⟨rfl, rfl⟩
  | some w => exact pushReport_keepsFlags c w s

theorem retry_keepsFlags (c : Config) (s : State) : KeepsFlags s (retry c s) := by
  unfold retry
  split <;> exact ⟨rfl, rfl⟩

theorem compose_keepsFlags {i : Instr} {cls : CodeClass} (he : execAt c i s = composeCycle c cls s) :
    KeepsFlags s (execAt c i s) := by
  rw [he, composeCycle_eq_offer]
  have k := offer_keepsFlags c (composeClass c cls s.pending).report
    (s.withPending (composeClass c cls s.pending).pending)
  exact ⟨k.shift, k.shiftEvt⟩

/-- A decode cycle sets `shift_evt` when its branch says so, and never clears it (R125). -/
theorem afterDecode_shiftEvt (c : Config) (r : Decoded) (s : State) :
    (afterDecode c r s).shiftEvt = (s.shiftEvt || r.evt) := by
  rw [afterDecode_eq_offer, (offer_keepsFlags _ _ _).shiftEvt, withRegs_shiftEvt]

/-! ### Scan ticks -/

/-- A tick that completes a chord runs its decode cycle at a cleared accumulator (R124, R125). -/
theorem scanTick_of_completedChord (hm : c.maskW = 8) {swN : BitVec 8} {chord : ChordMask}
    (h : completedChord swN s = some chord) : scanTick c swN s = decodeCycle c chord (s.withAcc 0x00#8) := by
  obtain ⟨⟨hp, hs, ha⟩, rfl⟩ : (s.sphase = .idle ∧ ~~~swN = 0x00#8 ∧ s.acc ≠ 0x00#8) ∧ s.acc = chord := by
    simpa only [completedChord, Option.ite_none_right_eq_some, Option.some.injEq] using h
  rw [scanTick, if_neg (by simp [hp]), if_neg (by simp [sample_eq hm, hs]), if_pos ha]

/-- A tick that completes no chord writes at most the accumulator. -/
theorem scanTick_of_no_chord (hm : c.maskW = 8) {swN : BitVec 8} (h : completedChord swN s = none) :
    ∃ a, scanTick c swN s = s.withAcc a := by
  rcases scanTick_cases c swN s with ⟨-, e⟩ | ⟨-, -, e⟩ | ⟨hp, hs, ha, -⟩ | ⟨-, -, -, e⟩
  · exact ⟨s.acc, e⟩
  · exact ⟨_, e⟩
  · rw [sample_eq hm] at hs
    simp [completedChord_eq_some hp hs ha] at h
  · exact ⟨s.acc, e⟩

/-- The decode cycle of a chord is the operation its mask selects (R125, R142). -/
theorem execAt_chordInstr (c : Config) (mask : ChordMask) (s : State) :
    execAt c (chordInstr c mask) s = decodeCycle c mask s := by
  unfold chordInstr decodeCycle decodeChord
  split_ifs <;> rfl

theorem opOwner_chordInstr (c : Config) (mask : ChordMask) : opOwner (chordInstr c mask) = .decoder := by
  unfold chordInstr
  split_ifs <;> rfl

/-- Caps alone, and no other mask, selects the Caps toggle (R91, R150). -/
theorem chordInstr_eq_decCapsToggle_iff (hc : c.WF) {mask : ChordMask} :
    chordInstr c mask = .decCapsToggle ↔ mask = capsAlone c := by
  constructor
  · intro h
    by_contra hne
    rw [chordInstr, if_neg hne] at h
    split_ifs at h
  · rintro rfl
    rw [capsAlone, chordInstr_chordOf hc]
    simp

/-! ### Who writes -/

/-- The operations that may write a flag or `shift_evt` short of a reset: a decoder branch, and a tick that completes a
chord. -/
def RunsTheDecoder (i : Instr) (s : State) : Prop :=
  opOwner i = .decoder ∨ ∃ swN, i = .scanTick swN ∧ completedChord swN s ≠ none

/-- An operation that does not run the decoder keeps the flags and `shift_evt`, but for a reset. -/
theorem execAt_keepsFlags (hm : c.maskW = 8) {i : Instr} (hr : i ≠ .reset) (hd : ¬ RunsTheDecoder i s) :
    KeepsFlags s (execAt c i s) := by
  obtain ⟨hdec, htick⟩ := not_or.mp hd
  cases i with
  | scanTick swN =>
    have hnone : completedChord swN s = none := by_contra fun h => htick ⟨swN, rfl, h⟩
    obtain ⟨a, e⟩ := scanTick_of_no_chord hm hnone
    rw [execAt, e]
    exact ⟨rfl, rfl⟩
  | decChar _ | decThumb _ | decNum _ | decCapsToggle | decCommand _ | decNumlockToggle | decPanicClear | decEshiftSet
  | decCountermand _ | decNop _ => exact absurd rfl hdec
  | compNone | compUnmapped _ => exact compose_keepsFlags (cls := noKeyClass) rfl
  | compCtrlStart => exact compose_keepsFlags (cls := .start .ctrl) rfl
  | compAltStart => exact compose_keepsFlags (cls := .start .alt) rfl
  | compAltctrlStart => exact compose_keepsFlags (cls := .start .altctrl) rfl
  | compGuiStart => exact compose_keepsFlags (cls := .start .gui) rfl
  | compGuiKey | compCtrlkey _ | compPrintable _ | compExt1 | compExt2 => exact compose_keepsFlags rfl
  | push w => exact pushReport_keepsFlags c w s
  | retryPush => exact retry_keepsFlags c s
  | drain =>
    have k := drainRelay_keepsScannerState c s
    exact ⟨k.shift, k.shiftEvt⟩
  | pop =>
    have k := dequeue_keepsScannerState c s
    exact ⟨k.shift, k.shiftEvt⟩
  | reset => exact absurd rfl hr

@[simp] theorem cascade_evt (c : Config) (fam : TableFamily) (f : Fset) (v : ShiftState) :
    (cascade c fam f v).evt = false := by
  unfold cascade
  split_ifs <;> rfl

@[simp] theorem decNum_evt (c : Config) (f : Fset) (v : ShiftState) : (decNum c f v).evt = false := by
  unfold decNum
  split_ifs <;> rfl

/-- A decoder branch runs the decode cycle of its results, and the Caps toggle alone reports a shift event (R150). -/
theorem execAt_decoder_eq_afterDecode (c : Config) {i : Instr} (s : State) (ho : opOwner i = .decoder) :
    ∃ r, execAt c i s = afterDecode c r s ∧ (r.evt = true ↔ i = .decCapsToggle) := by
  cases i with
  | decChar f => exact ⟨decChar c f s.shift, rfl, by simp [decChar]⟩
  | decThumb f => exact ⟨decThumb c f s.shift, rfl, by simp [decThumb]⟩
  | decNum f => exact ⟨decNum c f s.shift, rfl, by simp⟩
  | decCapsToggle => exact ⟨decCapsToggle s.shift, rfl, by simp [decCapsToggle]⟩
  | decCommand f => exact ⟨decCommand c f s.shift, rfl, by simp [decCommand]⟩
  | decNumlockToggle => exact ⟨decNumlockToggle s.shift, rfl, by simp [decNumlockToggle]⟩
  | decPanicClear => exact ⟨decPanicClear s.shift, rfl, by simp [decPanicClear]⟩
  | decEshiftSet => exact ⟨decEshiftSet s.shift, rfl, by simp [decEshiftSet]⟩
  | decCountermand f => exact ⟨decCountermand c f s.shift, rfl, by simp [decCountermand]⟩
  | decNop mask => exact ⟨decNop s.shift, rfl, by simp [decNop]⟩
  | _ => cases ho

theorem execAt_decoder_shiftEvt_iff (c : Config) {i : Instr} (s : State) (ho : opOwner i = .decoder) :
    (execAt c i s).shiftEvt = true ↔ s.shiftEvt = true ∨ i = .decCapsToggle := by
  obtain ⟨r, e, hevt⟩ := execAt_decoder_eq_afterDecode c s ho
  rw [e, afterDecode_shiftEvt, Bool.or_eq_true, hevt]

/-- A tick that completes a chord sets `shift_evt` exactly where the chord is Caps alone. -/
theorem scanTick_shiftEvt_iff (hc : c.WF) {swN : BitVec 8} {chord : ChordMask} (h : completedChord swN s = some chord) :
    (scanTick c swN s).shiftEvt = true ↔ s.shiftEvt = true ∨ chord = capsAlone c := by
  rw [scanTick_of_completedChord hc.mask_w h, ← execAt_chordInstr,
    execAt_decoder_shiftEvt_iff c _ (opOwner_chordInstr c chord), chordInstr_eq_decCapsToggle_iff hc, withAcc_shiftEvt]

/-- `shift_evt` after any operation but a reset: sticky, and set by Caps alone (R39; decision D12). -/
theorem execAt_shiftEvt_iff (hc : c.WF) {i : Instr} (hr : i ≠ .reset) (s : State) :
    (execAt c i s).shiftEvt = true ↔
      s.shiftEvt = true ∨ i = .decCapsToggle ∨
        ∃ swN, i = .scanTick swN ∧ completedChord swN s = some (capsAlone c) := by
  by_cases hd : RunsTheDecoder i s
  · rcases hd with ho | ⟨swN, rfl, hsome⟩
    · have hnotick : ∀ swN, i ≠ .scanTick swN := by
        rintro swN rfl
        cases ho
      simp [execAt_decoder_shiftEvt_iff c s ho, hnotick]
    · obtain ⟨chord, hchord⟩ := Option.ne_none_iff_exists'.mp hsome
      simp [execAt, scanTick_shiftEvt_iff hc hchord, hchord]
  · have hcaps : i ≠ .decCapsToggle := by
      rintro rfl
      exact hd (.inl rfl)
    have hnochord : ¬ ∃ swN, i = .scanTick swN ∧ completedChord swN s = some (capsAlone c) :=
      fun ⟨swN, hi, h⟩ => hd (.inr ⟨swN, hi, by simp [h]⟩)
    simp [(execAt_keepsFlags hc.mask_w hr hd).shiftEvt, hcaps, hnochord]

end Sys2Proof.Machine
end

/-! ## The obligations on the state -/

section

namespace Sys2Proof.Machine

open Sys2Proof

/-- Settles O50: from what an enqueue and a dequeue do to the live entries, and the shape both keep. -/
theorem ringBufferRefinesABoundedFifo : Obligations.RingBufferRefinesABoundedFifo :=
  fun _ _ h => ⟨fun w => liveEntries_enqueue w h, liveEntries_dequeue h, dequeue_popData h,
    fun w => enqueue_keeps_shape w h, dequeue_keeps_shape h⟩

/-- Settles O29: an operation that neither runs the decoder nor resets keeps the flags (`execAt_keepsFlags`). -/
theorem onlyTheDecoderWritesFlags : Obligations.OnlyTheDecoderWritesFlags := by
  intro i s t hexec hshift
  rw [exec_eq_execAt] at hexec
  cases hexec
  by_cases hd : RunsTheDecoder i s
  · exact or_assoc.mp (.inl hd)
  · have hreset : i = .reset := by_contra fun hr => hshift (execAt_keepsFlags rfl hr hd).shift
    exact .inr (.inr hreset)

/-- Settles O30: `execAt_shiftEvt_iff` at the decided placement, where Caps alone is the mask `0x20`. -/
theorem shiftEventIsStickyAndFromCapsAlone : Obligations.ShiftEventIsStickyAndFromCapsAlone :=
  ⟨fun i s hr => ⟨execAt blockConfig i s, exec_eq_execAt i s, execAt_shiftEvt_iff blockConfig_wf hr s⟩,
    fun s => ⟨resetBlock blockConfig s, rfl, rfl⟩⟩

end Sys2Proof.Machine
end

/-! ## Where reports go -/

section
/-! The report accounts of one agent step and of a run (`20_memory.md` R72, R73; `43_relay_queue.md` R224 to R228): the
reports in flight before a step and the one it forwards are the ones it returns, keeps and drops. -/

namespace Sys2Proof.Machine

open Sys2Proof

variable {c : Config} {s t : State}

/-! ### Accounts -/

/-- Between `s` and `t` the reports `fwd` came in, `pop` went out at the front and `drop` was taken out of the middle; the
rest stays in flight in its order. -/
def Accounts (c : Config) (s t : State) (fwd pop drop : List Report) : Prop :=
  ∃ older younger, inFlight c t = older ++ younger ∧ inFlight c s ++ fwd = pop ++ older ++ drop ++ younger

/-- Where nothing is returned or dropped, the reports in flight only grow by those forwarded. -/
theorem Accounts.of_appended {fwd : List Report} (h : inFlight c t = inFlight c s ++ fwd) : Accounts c s t fwd [] [] :=
  ⟨inFlight c t, [], by simp, by simp [h]⟩

theorem Accounts.sublist {fwd pop drop : List Report} (h : Accounts c s t fwd pop drop) :
    (pop ++ inFlight c t).Sublist (inFlight c s ++ fwd) := by
  obtain ⟨older, younger, ht, hs⟩ := h
  rw [ht, hs, ← List.append_assoc]
  exact (List.sublist_append_left _ drop).append_right younger

theorem Accounts.perm {fwd pop drop : List Report} (h : Accounts c s t fwd pop drop) :
    (pop ++ inFlight c t ++ drop).Perm (inFlight c s ++ fwd) := by
  obtain ⟨older, younger, ht, hs⟩ := h
  rw [ht, hs, ← List.append_assoc, List.append_assoc _ younger, List.append_assoc _ drop]
  exact List.perm_append_comm.append_left _

/-! ### The parts of the reports in flight -/

@[simp] theorem relayWords_full (h : s.relayFull = true) : relayWords s = [s.relayData] := if_pos h

@[simp] theorem relayWords_empty (h : s.relayFull = false) : relayWords s = [] := if_neg (by simp [h])

@[simp] theorem heldWords_stalled (h : s.sphase = .stalled) : heldWords s = [s.hold] := if_pos h

@[simp] theorem heldWords_idle (h : s.sphase = .idle) : heldWords s = [] := if_neg (by simp [h])

@[simp] theorem relayWords_enqueue (c : Config) (w : Report) (s : State) : relayWords (enqueue c w s) = relayWords s := by
  unfold enqueue
  split <;> rfl

@[simp] theorem heldWords_enqueue (c : Config) (w : Report) (s : State) : heldWords (enqueue c w s) = heldWords s := by
  unfold enqueue
  split <;> rfl

@[simp] theorem relayWords_dequeue (c : Config) (s : State) : relayWords (dequeue c s) = relayWords s := by
  unfold dequeue
  split <;> rfl

@[simp] theorem heldWords_dequeue (c : Config) (s : State) : heldWords (dequeue c s) = heldWords s := by
  unfold dequeue
  split <;> rfl

/-- A word put into an empty relay is in flight behind the queue and before a held word (R220). -/
theorem inFlight_relayPut (c : Config) (w : Report) (s : State) :
    inFlight c (s.relayPut w) = liveEntries c s ++ [w] ++ heldWords s := rfl

/-- A stalled push is in flight behind the relay's word (R221). -/
theorem inFlight_stalledWith (c : Config) (w : Report) (s : State) :
    inFlight c (s.stalledWith w) = liveEntries c s ++ relayWords s ++ [w] := rfl

/-- With the word taken from the relay the queue and the held word are left. -/
theorem inFlight_relayTaken (c : Config) (s : State) : inFlight c s.relayTaken = liveEntries c s ++ heldWords s :=
  congrArg (· ++ heldWords s) (List.append_nil _)

/-- A reset leaves nothing in flight (R280). -/
theorem inFlight_resetBlock (c : Config) (s : State) : inFlight c (resetBlock c s) = [] := rfl

/-! ### What each operation does to the reports in flight -/

/-- A push by an idle Scanner puts its report last in flight: in the relay, or behind the relay's word (R220, R221). -/
theorem inFlight_pushReport (hc : c.relayCap = 1) (w : Report) (hp : s.sphase = .idle) :
    inFlight c (pushReport c w s) = inFlight c s ++ [w] := by
  rcases pushReport_cases w hc s with ⟨hr, e⟩ | ⟨-, e⟩ <;> rw [e]
  · rw [inFlight_relayPut, inFlight, relayWords_empty hr, heldWords_idle hp]
    simp
  · rw [inFlight_stalledWith, inFlight, heldWords_idle hp]
    simp

/-- A retry moves the held word into the empty relay behind the queue (R222). -/
theorem inFlight_retry (hc : c.relayCap = 1) (s : State) : inFlight c (retry c s) = inFlight c s := by
  rcases retry_cases hc s with ⟨hp, hr, e⟩ | ⟨-, e⟩ <;> rw [e]
  calc inFlight c (s.relayPut s.hold).resumed
      = liveEntries c s ++ [s.hold] ++ [] := rfl
    _ = inFlight c s := by simp [inFlight, hr, hp]

/-- A tick adds to the reports in flight what it forwards; a stalled Scanner forwards nothing (R122). -/
theorem inFlight_scanTick (hm : c.maskW = 8) (hc : c.relayCap = 1) (swN : BitVec 8) (s : State) :
    inFlight c (scanTick c swN s) = inFlight c s ++ (forwards c (.scanTick swN) s).toList := by
  cases hp : s.sphase with
  | stalled =>
    rw [forwards_scanTick_of_none (completedChord_eq_none (.inl hp)), scanTick, if_pos hp]
    exact (List.append_nil _).symm
  | idle =>
    obtain ⟨a, v, b, p, e⟩ := scanTick_offersItsReport hm swN s
    calc inFlight c (scanTick c swN s)
        = inFlight c (offer c (forwards c (.scanTick swN) s) (s.withRegs a v b p)) := congrArg (inFlight c) e
      _ = inFlight c s ++ (forwards c (.scanTick swN) s).toList := by
          cases forwards c (.scanTick swN) s with
          | none => exact (List.append_nil _).symm
          | some w => exact inFlight_pushReport hc w hp

/-- The report an operation that leads from `s` to `t` returns to the Host (R226). -/
def poppedBy (i : Instr) (s t : State) : List Report := if i = .pop ∧ 0 < s.qCount then [t.popData] else []

/-- The report an operation drops at a full queue (R225). -/
def droppedBy (c : Config) (i : Instr) (s : State) : List Report :=
  if i = .drain ∧ s.relayFull = true ∧ ¬ s.qCount < c.queueCap then [s.relayData] else []

theorem poppedBy_of_ne {i : Instr} (h : i ≠ .pop) (s t : State) : poppedBy i s t = [] := if_neg fun hp => h hp.1

theorem droppedBy_of_ne {i : Instr} (h : i ≠ .drain) (c : Config) (s : State) : droppedBy c i s = [] :=
  if_neg fun hd => h hd.1

/-- A drain moves the relay's word to the back of the queue (R223, R224), or drops it there (R225). -/
theorem drainRelay_accounts (h : s.QueueShape c) : Accounts c s (drainRelay c s) [] [] (droppedBy c .drain s) := by
  rcases drainRelay_cases c s with ⟨hr, e⟩ | ⟨hr, e⟩ <;> rw [e]
  · by_cases hn : s.qCount < c.queueCap
    · have hlive : liveEntries c (enqueue c s.relayData s.relayTaken) = liveEntries c s ++ [s.relayData] :=
        liveEntries_enqueue_room _ ⟨h.mem_length, h.head_lt, h.count_le⟩ hn
      have hrelay : relayWords s.relayTaken = [] := rfl
      have hheld : heldWords s.relayTaken = heldWords s := rfl
      rw [droppedBy, if_neg (by simp [hn])]
      exact .of_appended (by simp [inFlight, hlive, hr, hrelay, hheld])
    · rw [droppedBy, if_pos ⟨rfl, hr, hn⟩, enqueue_full (s := s.relayTaken) _ hn]
      exact ⟨liveEntries c s, heldWords s, inFlight_relayTaken c s, by simp [inFlight, hr]⟩
  · rw [droppedBy, if_neg (by simp [hr])]
    exact .of_appended (List.append_nil _).symm

/-- A pop takes the oldest report in flight where the queue holds one (R226), and none where it is empty (R227). -/
theorem dequeue_accounts (h : s.QueueShape c) : Accounts c s (dequeue c s) [] (poppedBy .pop s (dequeue c s)) [] := by
  by_cases hn : 0 < s.qCount
  · have hpop : (dequeue c s).popData = s.slot s.qHead := by rw [dequeue_some hn]; rfl
    rw [poppedBy, if_pos ⟨rfl, hn⟩, hpop]
    exact ⟨inFlight c (dequeue c s), [], by simp, by simp [inFlight, liveEntries_eq_cons_dequeue h hn]⟩
  · rw [poppedBy, if_neg (by simp [hn]), dequeue_empty (by omega)]
    exact .of_appended (List.append_nil _).symm

/-! ### The agents' operations -/

/-- The operation of an agent step (`60_exceptions.md` R253). -/
inductive AgentOp : Instr → Prop where
  | scanTick (swN : BitVec 8) : AgentOp (.scanTick swN)
  | retryPush : AgentOp .retryPush
  | drain : AgentOp .drain
  | pop : AgentOp .pop
  | reset : AgentOp .reset

/-- The line of an agent step decodes to an agent's operation, and only the line of `rst` to a reset (R253). -/
theorem agentOp_of_decodeLine {l : Line} {i : Instr} (ha : l.isAgentStep = true) (h : decodeLine c l = .ok i) :
    AgentOp i ∧ (i = .reset → l.format = .rst) := by
  unfold decodeLine at h
  unfold Line.isAgentStep at ha
  split at h
  case h_1 => cases h; exact ⟨.scanTick _, nofun⟩
  case h_2 => cases h; exact ⟨.retryPush, nofun⟩
  case h_3 => cases h; exact ⟨.drain, nofun⟩
  case h_4 => cases h; exact ⟨.pop, nofun⟩
  case h_5 hformat _ => cases h; exact ⟨.reset, fun _ => hformat⟩
  case h_6 hformat _ | h_7 hformat _ | h_8 hformat _ => simp [hformat] at ha
  case h_9 => cases h

/-- An agent's operation but a reset accounts for every report: forwarded, returned, dropped or still in flight. -/
theorem execAt_accounts (hm : c.maskW = 8) (hc : c.relayCap = 1) {i : Instr} (hi : AgentOp i) (hr : i ≠ .reset)
    (h : s.QueueShape c) :
    Accounts c s (execAt c i s) (forwards c i s).toList (poppedBy i s (execAt c i s)) (droppedBy c i s) := by
  cases hi with
  | scanTick swN =>
    rw [poppedBy_of_ne (by simp), droppedBy_of_ne (by simp)]
    exact .of_appended (inFlight_scanTick hm hc swN s)
  | retryPush =>
    rw [poppedBy_of_ne (by simp), droppedBy_of_ne (by simp)]
    exact .of_appended ((inFlight_retry hc s).trans (List.append_nil _).symm)
  | drain =>
    rw [poppedBy_of_ne (by simp)]
    exact drainRelay_accounts h
  | pop =>
    rw [droppedBy_of_ne (by simp)]
    exact dequeue_accounts h
  | reset => exact absurd rfl hr

theorem KeepsReporterState.shape (k : KeepsReporterState s t) (h : s.QueueShape c) : t.QueueShape c :=
  ⟨k.qMem ▸ h.mem_length, k.qHead ▸ h.head_lt, k.qCount ▸ h.count_le⟩

/-- Every operation keeps the queue's shape and the lines still to be served. -/
theorem execAt_keeps_shape_script (hc : c.WF) (i : Instr) (h : s.QueueShape c) :
    (execAt c i s).QueueShape c ∧ (execAt c i s).script = s.script := by
  cases ho : opOwner i with
  | scanner | decoder =>
    have k : KeepsReporterState s (execAt c i s) := execAt_keepsReporterState hc.mask_w hc.relay_cap s (by simp [ho])
    exact ⟨k.shape h, k.script⟩
  | reporter =>
    have k : KeepsScannerState s (execAt c i s) := execAt_keepsScannerState c s ho
    refine ⟨?_, k.script⟩
    rcases opOwner_eq_reporter_iff.mp ho with rfl | rfl
    · exact drainRelay_keeps_shape h
    · exact dequeue_keeps_shape h
  | all =>
    obtain rfl := opOwner_eq_all_iff.mp ho
    exact ⟨resetBlock_has_shape hc.queue_nonempty, rfl⟩

/-! ### Steps -/

theorem nextOp_nil (h : s.script = []) : nextOp s = (internalStep blockConfig s).map fun i => (i, s) := by
  simp [nextOp, nextLine, h]

theorem nextOp_cons {l : Line} {rest : List Line} (h : s.script = l :: rest) :
    nextOp s = (decodeLine blockConfig l).toOption.map fun i => (i, s.withScript rest) := by
  simp [nextOp, nextLine, h]

/-- A step of the machine that answers a next state ran the next operation, or there was none and nothing changed. -/
theorem step_eq_next (h : step s = .next t) :
    (nextOp s = none ∧ t = s) ∨ ∃ i s1, nextOp s = some (i, s1) ∧ t = execAt blockConfig i s1 := by
  rw [step_eq_stepAt, stepAt] at h
  rw [nextOp]
  cases hline : nextLine s with
  | some p =>
    obtain ⟨line, s1⟩ := p
    cases hi : decodeLine blockConfig line with
    | ok i =>
      simp only [hline, hi] at h
      exact .inr ⟨i, s1, by simp [hi, Except.toOption], (Host.Outcome.next.inj h).symm⟩
    | error e => simp [hline, hi] at h
  | none =>
    cases hi : internalStep blockConfig s with
    | some i =>
      simp only [hline, hi] at h
      exact .inr ⟨i, s, by simp, (Host.Outcome.next.inj h).symm⟩
    | none =>
      simp only [hline, hi] at h
      exact .inl ⟨by simp, (Host.Outcome.next.inj h).symm⟩

/-- In a run of the block the next operation is an agent's, run with the head of the script served; it is a reset only
where the script has one. -/
theorem nextOp_eq_some {i : Instr} {s1 : State} (ha : agentScript s) (h : nextOp s = some (i, s1)) :
    s1 = s.withScript s.script.tail ∧ AgentOp i ∧ (noResetLine s → i ≠ .reset) := by
  cases hs : s.script with
  | nil =>
    simp only [nextOp_nil hs, Option.map_eq_some_iff, Prod.mk.injEq] at h
    obtain ⟨j, hj, rfl, rfl⟩ := h
    have hsame : s = s.withScript [] := by rw [← hs]; rfl
    rcases internalStep_eq_some hj with rfl | rfl
    · exact ⟨hsame, .retryPush, fun _ => nofun⟩
    · exact ⟨hsame, .drain, fun _ => nofun⟩
  | cons line rest =>
    have hmem : line ∈ s.script := by simp [hs]
    simp only [nextOp_cons hs, Option.map_eq_some_iff, Prod.mk.injEq] at h
    obtain ⟨j, hj, rfl, rfl⟩ := h
    have hdecode : decodeLine blockConfig line = .ok j := by
      cases hd : decodeLine blockConfig line with
      | ok k => simpa [hd, Except.toOption] using hj
      | error e => simp [hd, Except.toOption] at hj
    obtain ⟨hop, hreset⟩ := agentOp_of_decodeLine (ha line hmem) hdecode
    exact ⟨rfl, hop, fun hno he => hno line hmem (hreset he)⟩

/-- The queue has its shape and the script is the block's own: what the statements about runs assume, kept by every
step. -/
structure AgentRun (s : State) : Prop where
  shape  : s.QueueShape blockConfig
  agents : agentScript s

/-- A step keeps the shape and serves lines of the script only. -/
theorem step_keeps_agentRun (h : AgentRun s) (hst : step s = .next t) : AgentRun t ∧ t.script ⊆ s.script := by
  rcases step_eq_next hst with ⟨-, rfl⟩ | ⟨i, s1, hop, rfl⟩
  · exact ⟨h, List.Subset.refl _⟩
  · obtain ⟨rfl, -, -⟩ := nextOp_eq_some h.agents hop
    obtain ⟨hshape, hscript⟩ := execAt_keeps_shape_script blockConfig_wf i
      (s := s.withScript s.script.tail) ⟨h.shape.mem_length, h.shape.head_lt, h.shape.count_le⟩
    have hsub : (execAt blockConfig i (s.withScript s.script.tail)).script ⊆ s.script := by
      rw [hscript, withScript_script]
      exact List.tail_subset _
    exact ⟨⟨hshape, fun l hl => h.agents l (hsub hl)⟩, hsub⟩

/-- A step accounts for every report, or is a reset, which returns none and leaves none in flight. -/
theorem step_accounts (h : AgentRun s) (hst : step s = .next t) :
    Accounts blockConfig s t (forwardedNow s) (poppedNow s t) (droppedNow s) ∨
      (¬ noResetLine s ∧ poppedNow s t = [] ∧ inFlight blockConfig t = []) := by
  rcases step_eq_next hst with ⟨hop, rfl⟩ | ⟨i, s1, hop, rfl⟩
  · simp only [forwardedNow, poppedNow, droppedNow, hop]
    exact .inl (.of_appended (List.append_nil _).symm)
  · obtain ⟨rfl, hagent, hreset⟩ := nextOp_eq_some h.agents hop
    by_cases hr : i = .reset
    · subst hr
      exact .inr ⟨fun hno => hreset hno rfl, by simp [poppedNow, hop], inFlight_resetBlock _ _⟩
    · have hacc := execAt_accounts (s := s.withScript s.script.tail) blockConfig_wf.mask_w blockConfig_wf.relay_cap
        hagent hr ⟨h.shape.mem_length, h.shape.head_lt, h.shape.count_le⟩
      simp only [forwardedNow, poppedNow, droppedNow, hop]
      exact .inl hacc

/-! ### Runs -/

/-- A step's entries before those of the rest of the run. -/
def RunLog.after (l : RunLog) (s t : State) : RunLog :=
  ⟨forwardedNow s ++ l.forwarded, poppedNow s t ++ l.popped, droppedNow s ++ l.dropped, l.final⟩

theorem runLog_succ (n : Nat) (h : step s = .next t) : runLog (n + 1) s = (runLog n t).after s t := by
  rw [runLog, h]
  rfl

/-- What holds of the empty log and carries over from the rest of a run to the run holds of every run, along an invariant
of the steps. -/
theorem runLog_induction {Inv : State → Prop} {P : State → RunLog → Prop}
    (keeps : ∀ s t, Inv s → step s = .next t → Inv t) (stop : ∀ s, P s ⟨[], [], [], s⟩)
    (next : ∀ s t l, Inv s → step s = .next t → P t l → P s (l.after s t)) (n : Nat) :
    ∀ s, Inv s → P s (runLog n s) := by
  induction n with
  | zero => exact fun s _ => stop s
  | succ n ih =>
    intro s hs
    cases hst : step s with
    | next t =>
      rw [runLog_succ n hst]
      exact next s t _ hs hst (ih t (keeps s t hs hst))
    | fault r => cases r
    | refused r =>
      rw [runLog, hst]
      exact stop s

/-- The reports returned and those still in flight come from those in flight at the start and those forwarded, in order
(R73). -/
def RunLog.InOrder (s : State) (l : RunLog) : Prop :=
  (l.popped ++ inFlight blockConfig l.final).Sublist (inFlight blockConfig s ++ l.forwarded)

/-- The reports returned, in flight at the end and dropped are those in flight at the start and those forwarded (R228). -/
def RunLog.Balanced (s : State) (l : RunLog) : Prop :=
  (l.popped ++ inFlight blockConfig l.final ++ l.dropped).Perm (inFlight blockConfig s ++ l.forwarded)

/-- Order carries over a step that is itself in order. -/
theorem RunLog.InOrder.after {l : RunLog} (hl : l.InOrder t)
    (hstep : (poppedNow s t ++ inFlight blockConfig t).Sublist (inFlight blockConfig s ++ forwardedNow s)) :
    (l.after s t).InOrder s := by
  have hrest := hl.append_left (poppedNow s t)
  have hfirst := hstep.append_right l.forwarded
  simp only [RunLog.InOrder, RunLog.after, List.append_assoc] at hrest hfirst ⊢
  exact hrest.trans hfirst

/-- The balance carries over a step that is itself balanced. -/
theorem RunLog.Balanced.after {l : RunLog} (hl : l.Balanced t)
    (hstep : (poppedNow s t ++ inFlight blockConfig t ++ droppedNow s).Perm (inFlight blockConfig s ++ forwardedNow s)) :
    (l.after s t).Balanced s := by
  refine List.perm_iff_count.mpr fun w => ?_
  have hrest := hl.count_eq w
  have hfirst := hstep.count_eq w
  simp only [RunLog.after, List.count_append] at hrest hfirst ⊢
  omega

end Sys2Proof.Machine
end

/-! ## The decoder table space and the letter a -/

section
/-! The decoder tables by address (`20_memory.md` R60), and the cycle of chord `0x0C` (R61). -/

namespace Sys2Proof.Machine

open Sys2Proof

/-! ### Table addresses -/

@[simp] theorem tableOfTid_tableTid (t : TableId) : tableOfTid (tableTid t) = some t := by
  cases t <;> rfl

/-- Every table identifier is below the unused ones (R60). -/
theorem tableTid_lt (t : TableId) : tableTid t < 0xA#4 := by
  cases t <;> decide

theorem tableOfTid_unused {tid : BitVec 4} (h : 0xA#4 ≤ tid) : tableOfTid tid = none := by
  refine List.find?_eq_none.mpr fun t _ ht => ?_
  have heq : tableTid t = tid := by simpa using ht
  exact absurd (heq ▸ tableTid_lt t) (BitVec.not_lt.mpr h)

/-- The two halves of a table address are read back (R60). -/
theorem romAt_append (c : Config) (tid : BitVec 4) (f : Fset) :
    romAt c (tid ++ f) = (tableOfTid tid).map fun t => c.rom t f := by
  have htid : (tid ++ f).extractLsb' 4 4 = tid := BitVec.extractLsb'_append_eq_left
  have hf : (tid ++ f).extractLsb' 0 4 = f := BitVec.extractLsb'_append_eq_right
  rw [romAt, htid, hf]

/-! ### Chord `0x0C` -/

/-- Chord `0x0C` with every flag Off decodes to the pinned table entry (R61, R147). -/
theorem decodeChord_chordC : decodeChord blockConfig 0x0C#8 ShiftState.allOff = ⟨0x61#8, ShiftState.allOff, false⟩ := rfl

/-- The letter a with nothing pending is the direct report of its key (R182, R192, R197). -/
theorem compose_letterA : compose blockConfig 0x61#8 .none = ⟨some 0x00000004#32, .none⟩ := by decide

end Sys2Proof.Machine
end

/-! ## The obligations on the memory -/

section

namespace Sys2Proof.Machine

open Sys2Proof

/-- Settles O53: each step keeps the order (`step_accounts`), and a reset leaves nothing that could be out of order. -/
theorem reportsAreReturnedInOrder : Obligations.ReportsAreReturnedInOrder := by
  intro n s hshape hagents
  refine runLog_induction (Inv := AgentRun) (P := RunLog.InOrder) (fun s t h hst => (step_keeps_agentRun h hst).1)
    (fun s => by simp [RunLog.InOrder]) (fun s t l h hst hl => hl.after ?_) n s ⟨hshape, hagents⟩
  rcases step_accounts h hst with hacc | ⟨-, hpop, hnone⟩
  · exact hacc.sublist
  · rw [hpop, hnone]
    exact List.nil_sublist _

/-- Settles O54: without a reset each step is balanced (`step_accounts`). -/
theorem onlyAFullQueueLosesReports : Obligations.OnlyAFullQueueLosesReports := by
  intro n s hshape hagents hno
  refine runLog_induction (Inv := fun s => AgentRun s ∧ noResetLine s) (P := RunLog.Balanced)
    (fun s t ⟨h, hno⟩ hst => ?_) (fun s => by simp [RunLog.Balanced]) (fun s t l ⟨h, hno⟩ hst hl => hl.after ?_) n s
    ⟨⟨hshape, hagents⟩, hno⟩
  · obtain ⟨hrun, hscript⟩ := step_keeps_agentRun h hst
    exact ⟨hrun, fun l hl => hno l (hscript hl)⟩
  · rcases step_accounts h hst with hacc | ⟨hreset, -, -⟩
    · exact hacc.perm
    · exact absurd hno hreset

/-- Settles O8: an address is split into its halves, and no table has an unused identifier. -/
theorem tableSpaceIsAddressedByTidAndFset : Obligations.TableSpaceIsAddressedByTidAndFset := by
  refine ⟨fun c t f => ?_, fun c tid f h => ?_, rfl⟩
  · rw [romAt_append, tableOfTid_tableTid, Option.map_some]
  · rw [romAt_append, tableOfTid_unused h, Option.map_none]

/-- Settles O31: the tick completes the chord, whose cycle (O19) decodes to a and pushes its report. -/
theorem chordCGivesTheLetterA : Obligations.ChordCGivesTheLetterA := by
  intro s hphase hacc hshift hpending hrelay
  have hchord : completedChord 0xFF#8 s = some 0x0C#8 :=
    hacc ▸ completedChord_eq_some hphase (by decide) (by rw [hacc]; decide)
  have hdecode : ⟨0x61#8, ShiftState.allOff, false⟩ = decodeChord blockConfig 0x0C#8 (s.withAcc 0x00#8).shift := by
    rw [withAcc_shift, hshift]
    exact decodeChord_chordC.symm
  have hcompose : ⟨some 0x00000004#32, .none⟩ = compose blockConfig 0x61#8 (s.withAcc 0x00#8).pending := by
    rw [withAcc_pending, hpending]
    exact compose_letterA.symm
  obtain ⟨-, hforward⟩ := (decodeCycleWritesItsResults _ _ _ _ _ hdecode hcompose).2 (.inl rfl)
  rw [exec_eq_execAt, execAt, scanTick_of_completedChord rfl hchord, hforward _ rfl rfl, pushedState,
    if_neg (by simp [hrelay]), Bool.or_false, ShiftState.allOff, ← hshift, ← hpending]
  rfl

end Sys2Proof.Machine
end

/-! ## Encode after decode, and the bit encodings -/

section
/-! A mask is the chord of its Mods and Fset (`30_encoding.md` R90), what the selected operations encode to, the four
lanes of a packed report (R98), and the codes of the flags and of the pending modifier (R96, R97). -/

namespace Sys2Proof.Machine

open Sys2Proof

variable {c : Config}

/-! ### The fields of a mask -/

theorem getLsbD_fset (hc : c.WF) (mask : ChordMask) (i : Nat) :
    (fset c mask).getLsbD i = (decide (i < 4) && mask.getLsbD i) := by
  simp [fset_eq hc.fset_bits]

/-- The modifier switches drive every bit above the finger field, and no other. -/
theorem mem_modBits_iff (hc : c.WF) {n : Nat} : n ∈ modBits c ↔ 4 ≤ n ∧ n < 8 := by
  rw [(modBits_perm hc).mem_iff]
  simp only [List.mem_cons, List.not_mem_nil, or_false]
  omega

/-- A mask holds nothing but its Mods and its Fset: each bit is a finger bit or is driven by a modifier switch. -/
theorem chordOf_mods_fset (hc : c.WF) (mask : ChordMask) : chordOf c (mods c mask) (fset c mask) = mask := by
  obtain ⟨hT, hC, hN, hR⟩ := getLsbD_mods c mask
  apply BitVec.eq_of_getLsbD_eq
  intro i hi
  have driven (n : Nat) : (mask.getLsbD n && decide (i = n)) = (mask.getLsbD i && decide (i = n)) := by
    by_cases h : i = n <;> simp [h]
  have covered : i < 4 ∨ i = c.modBitThumb ∨ i = c.modBitCaps ∨ i = c.modBitNum ∨ i = c.modBitRepeat := by
    have hmem := mem_modBits_iff hc (n := i)
    simp only [modBits, List.mem_cons, List.not_mem_nil, or_false] at hmem
    omega
  rw [getLsbD_chordOf hc _ _ hi, hT, hC, hN, hR, driven, driven, driven, driven, getLsbD_fset hc]
  cases mask.getLsbD i with
  | false => simp
  | true => simpa [or_assoc] using covered

/-! ### What a selected operation encodes to -/

/-- The branch a mask selects encodes to the mask: it carries the Fset, and the branch fixes the Mods or the whole mask. -/
theorem encodeLine_chordInstr (hc : c.WF) (mask : ChordMask) : encodeLine c (chordInstr c mask) = chordLine mask := by
  have fields {m : Mods} (h : mods c mask = m) : chordLine (chordOf c m (fset c mask)) = chordLine mask := by
    rw [← h, chordOf_mods_fset hc]
  have whole {k : ChordMask} (h : mask = k) : chordLine k = chordLine mask := congrArg chordLine h.symm
  unfold chordInstr
  split_ifs with hchar hthumb hnum hcaps hcmd hnl hpanic heshift hctm
  · exact fields hchar.1
  · exact fields hthumb
  · exact fields hnum.1
  · exact whole hcaps
  · exact fields hcmd.1
  · exact whole hnl
  · exact whole hpanic
  · exact whole heshift
  · exact fields hctm.1
  · rfl

/-- The class a code selects encodes to the code: it carries the code, or is selected by one code only. -/
theorem encodeLine_codeInstr (c : Config) (code : OutputCode) : encodeLine c (codeInstr c code) = codeLine code := by
  have only {k : OutputCode} (h : code = k) : codeLine k = codeLine code := congrArg codeLine h.symm
  unfold codeInstr
  split_ifs with h0 hctrl halt haltctrl hgui hkey hkeys hprint hext1 hext2
  · exact only h0
  · exact only hctrl
  · exact only halt
  · exact only haltctrl
  · exact only hgui
  · exact only hkey
  · rfl
  · rfl
  · exact only hext1
  · exact only hext2
  · rfl

/-! ### The lanes of a report -/

theorem lane_one_pack (k0 k1 k2 : Keycode) (m : ModByte) : lane (pack k0 k1 k2 m) 1 = k1 :=
  calc lane (pack k0 k1 k2 m) 1
      = (m ++ k2 ++ k1).extractLsb' 0 8 := BitVec.extractLsb'_append_eq_of_le (by decide)
    _ = k1 := BitVec.extractLsb'_append_eq_right

theorem lane_two_pack (k0 k1 k2 : Keycode) (m : ModByte) : lane (pack k0 k1 k2 m) 2 = k2 :=
  calc lane (pack k0 k1 k2 m) 2
      = (m ++ k2 ++ k1).extractLsb' 8 8 := BitVec.extractLsb'_append_eq_of_le (by decide)
    _ = (m ++ k2).extractLsb' 0 8 := BitVec.extractLsb'_append_eq_of_le (by decide)
    _ = k2 := BitVec.extractLsb'_append_eq_right

theorem lane_three_pack (k0 k1 k2 : Keycode) (m : ModByte) : lane (pack k0 k1 k2 m) 3 = m :=
  calc lane (pack k0 k1 k2 m) 3
      = (m ++ k2 ++ k1).extractLsb' 16 8 := BitVec.extractLsb'_append_eq_of_le (by decide)
    _ = (m ++ k2).extractLsb' 8 8 := BitVec.extractLsb'_append_eq_of_le (by decide)
    _ = m := BitVec.extractLsb'_append_eq_left

/-- The operand bytes of a report are the bytes it was made of (R69). -/
theorem reportBytes_reportOfBytes (b0 b1 b2 b3 : BitVec 8) :
    reportBytes (reportOfBytes b0 b1 b2 b3) = [b0, b1, b2, b3] := by
  have hpack : reportOfBytes b0 b1 b2 b3 = pack b0 b1 b2 b3 := rfl
  rw [hpack, reportBytes, lane_zero_pack, lane_one_pack, lane_two_pack, lane_three_pack]

/-! ### Encode after decode -/

/-- Encode after decode: a chord, a code and a report give their operand bytes back; the events carry theirs as they are. -/
theorem encodeLine_of_decodeLine (hc : c.WF) {l : Line} {i : Instr} (h : decodeLine c l = .ok i) :
    encodeLine c i = l := by
  obtain ⟨format, bytes⟩ := l
  simp only [decodeLine] at h
  split at h
  case h_6 mask => exact Except.ok.inj h ▸ encodeLine_chordInstr hc mask
  case h_7 code => exact Except.ok.inj h ▸ encodeLine_codeInstr c code
  case h_8 b0 b1 b2 b3 =>
    obtain ⟨-, rfl⟩ := pushInstr_eq_ok_iff.mp h
    exact congrArg (Line.mk .push) (reportBytes_reportOfBytes b0 b1 b2 b3)
  case h_9 => cases h
  all_goals exact Except.ok.inj h ▸ rfl

/-! ### The bits of the flags -/

@[simp] theorem flagOfBits_flagBits (f : ShiftFlag) : flagOfBits (flagBits f) = some f := by
  cases f <;> rfl

@[simp] theorem eshiftOfBit_eshiftBit (e : EShift) : eshiftOfBit (eshiftBit e) = e := by
  cases e <;> rfl

/-- The flag code that is never written (R96). -/
theorem flagOfBits_unused : flagOfBits 0b11#2 = none := rfl

theorem shiftOfBits_shiftBits (s : ShiftState) : shiftOfBits (shiftBits s) = some s := by
  have hcaps : (shiftBits s).extractLsb' 3 2 = flagBits s.caps :=
    (BitVec.extractLsb'_append_eq_of_le (by decide)).trans BitVec.extractLsb'_append_eq_left
  have hnum : (shiftBits s).extractLsb' 1 2 = flagBits s.num :=
    (BitVec.extractLsb'_append_eq_of_le (by decide)).trans BitVec.extractLsb'_append_eq_right
  have hesh : (shiftBits s).extractLsb' 0 1 = eshiftBit s.esh := BitVec.extractLsb'_append_eq_right
  simp only [shiftOfBits, hcaps, hnum, hesh, flagOfBits_flagBits, eshiftOfBit_eshiftBit]

/-- A word with the unused code for either tri-valued flag is no ShiftState (R96). -/
theorem shiftOfBits_unused {b : BitVec 5} (h : b.extractLsb' 3 2 = 0b11#2 ∨ b.extractLsb' 1 2 = 0b11#2) :
    shiftOfBits b = none := by
  unfold shiftOfBits
  rcases h with hcaps | hnum
  · rw [hcaps, flagOfBits_unused]
  · rw [hnum, flagOfBits_unused]
    cases flagOfBits (b.extractLsb' 3 2) <;> rfl

/-! ### The bits of the pending modifier -/

@[simp] theorem pendingOfBits_pendingBits (p : Pending) : pendingOfBits (pendingBits p) = some p := by
  cases p <;> rfl

/-- Every code of a pending modifier is below the unused ones (R97). -/
theorem pendingBits_lt (p : Pending) : pendingBits p < 0b101#3 := by
  cases p <;> decide

theorem pendingOfBits_unused {b : BitVec 3} (h : 0b101#3 ≤ b) : pendingOfBits b = none := by
  refine List.find?_eq_none.mpr fun p _ hp => ?_
  have heq : pendingBits p = b := by simpa using hp
  exact absurd (heq ▸ pendingBits_lt p) (BitVec.not_lt.mpr h)

end Sys2Proof.Machine
end

/-! ## The obligations on the encoding -/

section

namespace Sys2Proof.Machine

open Sys2Proof

/-- Settles O2: an operand met its branch's condition, and no bit of the line is outside what the operation carries. -/
theorem encodeOfDecodeIsTheLine : Obligations.EncodeOfDecodeIsTheLine :=
  fun _ hc _ _ h => ⟨decodeLine_wellFormed h, encodeLine_of_decodeLine hc h⟩

/-- Settles O7: each field of a word reads back, and no value has an unused code. -/
theorem stateEncodingsReadBack : Obligations.StateEncodingsReadBack :=
  ⟨shiftOfBits_shiftBits, fun _ h => shiftOfBits_unused h, rfl, pendingOfBits_pendingBits,
    fun _ h => pendingOfBits_unused h, rfl⟩

/-- Settles O9: lane by lane, and the lanes joined again (`pack_lanes`). -/
theorem packPlacesEveryLane : Obligations.PackPlacesEveryLane :=
  ⟨fun k0 k1 k2 m =>
    ⟨lane_zero_pack k0 k1 k2 m, lane_one_pack k0 k1 k2 m, lane_two_pack k0 k1 k2 m, lane_three_pack k0 k1 k2 m⟩,
    pack_lanes⟩

end Sys2Proof.Machine
end

/-! ## Runs of ticks, and the operation a code selects -/

section
/-! What one scan tick and a list of them do to the Scanner (`40_sampler.md` R122 to R127), the OR of their samples, and
the composer operation of a code (`42_composer.md` R181). -/

namespace Sys2Proof.Machine

open Sys2Proof

variable {c : Config} {s : State}

/-! ### One tick -/

/-- A stalled Scanner takes no sample (R122). -/
theorem scanTick_stalled (c : Config) (swN : BitVec 8) (hp : s.sphase = .stalled) : scanTick c swN s = s := if_pos hp

/-- A tick with a switch pressed accumulates its sample (R123). -/
theorem scanTick_pressed (hm : c.maskW = 8) {swN : BitVec 8} (hp : s.sphase = .idle) (hs : ~~~swN ≠ 0x00#8) :
    scanTick c swN s = s.withAcc (s.acc ||| ~~~swN) := by
  rw [scanTick, if_neg (by simp [hp]), sample_eq hm, if_pos hs]

/-- A released tick with nothing accumulated changes nothing (R127). -/
theorem scanTick_released (hm : c.maskW = 8) {swN : BitVec 8} (hs : ~~~swN = 0x00#8) (ha : s.acc = 0x00#8) :
    scanTick c swN s = s := by
  rw [scanTick, sample_eq hm, if_neg (not_not.mpr hs), if_neg (not_not.mpr ha), ite_self]

/-- A released tick with something accumulated is the operation the chord selects, at a cleared accumulator (R124,
R125). -/
theorem scanTick_eq_chordInstr (hm : c.maskW = 8) {swN : BitVec 8} (hp : s.sphase = .idle) (hs : ~~~swN = 0x00#8)
    (ha : s.acc ≠ 0x00#8) : scanTick c swN s = execAt c (chordInstr c s.acc) (s.withAcc 0x00#8) := by
  rw [execAt_chordInstr, scanTick_of_completedChord hm (completedChord_eq_some hp hs ha)]

theorem offer_acc (c : Config) (o : Option Report) (s : State) : (offer c o s).acc = s.acc := by
  cases o with
  | none => rfl
  | some w =>
    rw [offer_some, pushReport]
    split <;> rfl

/-- The decode cycle leaves the accumulator alone. -/
theorem decodeCycle_acc (c : Config) (chord : ChordMask) (s : State) : (decodeCycle c chord s).acc = s.acc := by
  rw [decodeCycle, afterDecode_eq_offer, offer_acc, withRegs_acc]

/-! ### The OR of the samples -/

/-- What samples accumulate on top of `m` is `m` with their OR. -/
theorem foldl_samples (m : ChordMask) (lines : List (BitVec 8)) :
    lines.foldl (fun m swN => m ||| ~~~swN) m = m ||| samplesOr lines := by
  unfold samplesOr
  induction lines generalizing m with
  | nil => exact BitVec.or_zero.symm
  | cons swN rest ih => rw [List.foldl_cons, List.foldl_cons, ih, ih (0x00#8 ||| _), BitVec.zero_or, BitVec.or_assoc]

theorem samplesOr_cons (swN : BitVec 8) (rest : List (BitVec 8)) :
    samplesOr (swN :: rest) = ~~~swN ||| samplesOr rest := by
  rw [samplesOr, List.foldl_cons, foldl_samples, BitVec.zero_or]

/-- The OR does not depend on the order of the samples (R126). -/
theorem samplesOr_perm {lines lines' : List (BitVec 8)} (h : lines.Perm lines') : samplesOr lines = samplesOr lines' :=
  h.foldl_eq' (fun x _ y _ m => by rw [BitVec.or_assoc, BitVec.or_assoc, BitVec.or_comm (~~~x)]) 0x00#8

/-- The OR of samples that each have a switch pressed is some chord. -/
theorem samplesOr_ne_zero {lines : List (BitVec 8)} (hne : lines ≠ []) (hs : ∀ swN ∈ lines, ~~~swN ≠ 0x00#8) :
    samplesOr lines ≠ 0x00#8 := by
  obtain ⟨swN, rest, rfl⟩ := List.exists_cons_of_ne_nil hne
  rw [samplesOr_cons]
  exact fun h => hs swN List.mem_cons_self (BitVec.or_eq_zero_iff.mp h).1

/-- A line at a low level is a pressed switch in the sample (R121). -/
theorem not_ne_zero_of_low {swN : BitVec 8} {k : Nat} (hk : k < 8) (h : swN.getLsbD k = false) : ~~~swN ≠ 0x00#8 := by
  intro hz
  have hbit : (~~~swN).getLsbD k = true := by
    rw [BitVec.getLsbD_not, h, decide_eq_true hk, Bool.not_false, Bool.and_self]
  simp [hz] at hbit

/-! ### Lists of ticks -/

@[simp] theorem afterTicks_cons (c : Config) (swN : BitVec 8) (rest : List (BitVec 8)) (s : State) :
    afterTicks c (swN :: rest) s = afterTicks c rest (scanTick c swN s) := rfl

/-- However many ticks, a stalled Scanner takes no sample (R287). -/
theorem afterTicks_stalled (c : Config) (lines : List (BitVec 8)) (hp : s.sphase = .stalled) :
    afterTicks c lines s = s := by
  induction lines with
  | nil => rfl
  | cons swN rest ih => rw [afterTicks_cons, scanTick_stalled c swN hp, ih]

/-- Ticks that each have a switch pressed accumulate the OR of their samples and write nothing else (R123). -/
theorem afterTicks_pressed (hm : c.maskW = 8) {lines : List (BitVec 8)} (hs : ∀ swN ∈ lines, ~~~swN ≠ 0x00#8)
    (hp : s.sphase = .idle) : afterTicks c lines s = s.withAcc (s.acc ||| samplesOr lines) := by
  induction lines generalizing s with
  | nil => exact congrArg s.withAcc BitVec.or_zero.symm
  | cons swN rest ih =>
    obtain ⟨hfirst, hrest⟩ := List.forall_mem_cons.mp hs
    calc afterTicks c (swN :: rest) s
        = afterTicks c rest (s.withAcc (s.acc ||| ~~~swN)) := by rw [afterTicks_cons, scanTick_pressed hm hp hfirst]
      _ = s.withAcc (s.acc ||| ~~~swN ||| samplesOr rest) := ih hrest hp
      _ = s.withAcc (s.acc ||| samplesOr (swN :: rest)) := by rw [samplesOr_cons, BitVec.or_assoc]

/-- From a clear accumulator it holds just the OR of the samples. -/
theorem afterTicks_of_clear (hm : c.maskW = 8) {lines : List (BitVec 8)} (hs : ∀ swN ∈ lines, ~~~swN ≠ 0x00#8)
    (hp : s.sphase = .idle) (ha : s.acc = 0x00#8) : afterTicks c lines s = s.withAcc (samplesOr lines) := by
  rw [afterTicks_pressed hm hs hp, ha, BitVec.zero_or]

/-! ### The operation a code selects -/

/-- The operation a code selects is the composer cycle of the code's class (R180, R181): the two case tables make the
same tests, and each row's operation is the cycle of that row's class. -/
theorem execAt_codeInstr (c : Config) (code : OutputCode) (s : State) :
    execAt c (codeInstr c code) s = composeCycle c (classify c code) s := by
  simp only [codeInstr, classify, apply_ite (execAt c · s), apply_ite (composeCycle c · s)]
  rfl

end Sys2Proof.Machine
end

/-! ## The obligations on the sampler -/

section

namespace Sys2Proof.Machine

open Sys2Proof

/-- Settles O16: the ticks accumulate the OR, which is not zero, so the released tick is the operation it selects; the
OR does not depend on the order. -/
theorem samplesUpToReleaseGiveOneChord : Obligations.SamplesUpToReleaseGiveOneChord := by
  intro lines s hne hs hp ha
  have hticks : afterTicks blockConfig lines s = s.withAcc (samplesOr lines) := afterTicks_of_clear rfl hs hp ha
  have hclear : (s.withAcc (samplesOr lines)).withAcc 0x00#8 = s := ha ▸ rfl
  refine ⟨hticks, ⟨_, ?_, exec_eq_execAt _ s⟩, fun lines' hperm => ?_⟩
  · have hrelease : scanTick blockConfig 0xFF#8 (s.withAcc (samplesOr lines)) =
        execAt blockConfig (chordInstr blockConfig (samplesOr lines)) ((s.withAcc (samplesOr lines)).withAcc 0x00#8) :=
      scanTick_eq_chordInstr rfl hp (by decide) (samplesOr_ne_zero hne hs)
    rw [hticks, exec_eq_execAt, execAt, hrelease, hclear]
  · have hs' : ∀ swN ∈ lines', ~~~swN ≠ 0x00#8 := fun swN hmem => hs swN (hperm.mem_iff.mpr hmem)
    rw [hticks, samplesOr_perm hperm]
    exact afterTicks_of_clear rfl hs' hp ha

/-- Settles O17: the stuck line shows in every sample, so no tick is a released one. -/
theorem stuckSwitchCompletesNoChord : Obligations.StuckSwitchCompletesNoChord :=
  fun _ _ _ hk hlow hp => afterTicks_pressed rfl (fun swN hmem => not_ne_zero_of_low hk (hlow swN hmem)) hp

/-- Settles O32: the code selects its class's composer cycle (`execAt_codeInstr`), which offers what it composed. -/
theorem selectedCodeRunsTheComposer : Obligations.SelectedCodeRunsTheComposer := by
  intro code s
  refine ⟨_, exec_eq_execAt _ s, fun hnone => ?_, fun w hsome => ?_⟩ <;> rw [execAt_codeInstr]
  · exact afterCompose_none hnone
  · exact (afterCompose_some hsome).trans (pushReport_eq_pushedState rfl w _)

/-- Settles O14. -/
theorem ticksThatCompleteNoChord : Obligations.TicksThatCompleteNoChord :=
  fun _ _ =>
    ⟨fun hp hs => congrArg Host.Outcome.next (scanTick_pressed rfl hp hs),
      fun _ hs ha => congrArg Host.Outcome.next (scanTick_released rfl hs ha)⟩

/-- Settles O15: the completing tick is the selected operation's decode cycle, which leaves the cleared accumulator. -/
theorem completionRunsTheSelectedBranch : Obligations.CompletionRunsTheSelectedBranch := by
  intro swN s hp hs ha
  refine ⟨_, ?_, exec_eq_execAt _ _, ?_⟩
  · exact congrArg Host.Outcome.next (scanTick_eq_chordInstr rfl hp hs ha)
  · rw [execAt_chordInstr, decodeCycle_acc]

/-- Settles O18. -/
theorem stalledTicksAreABlackout : Obligations.StalledTicksAreABlackout :=
  fun _ hp =>
    ⟨fun swN => congrArg Host.Outcome.next (scanTick_stalled _ swN hp), fun lines => afterTicks_stalled _ lines hp⟩

end Sys2Proof.Machine
end

/-! ## The branch conditions by the fields of a mask -/

section
/-! The nine conditions of the case table (`41_decoder.md` R142) read only the Mods of a mask and whether a finger switch is
pressed, so what holds of every mask is a fact about sixteen Mods and one Boolean (R158, R160). -/

namespace Sys2Proof.Machine

open Sys2Proof

variable {c : Config}

/-- A condition on the fields of a mask: its Mods, and whether a finger switch is pressed. -/
abbrev FieldTest := Mods → Bool → Bool

/-- The field condition as a condition on the mask. -/
def FieldTest.onMask (c : Config) (test : FieldTest) (mask : ChordMask) : Bool :=
  test (mods c mask) (fset c mask != 0#4)

/-- The nine rows of R142, the whole-mask values of R91 written as Mods with no finger pressed. -/
def branchFieldTests : List FieldTest :=
  [fun m fingers => m == 0b0000#4 && fingers,
   fun m _ => m == 0b0001#4,
   fun m fingers => m == 0b0100#4 && fingers,
   fun m fingers => m == 0b0010#4 && !fingers,
   fun m fingers => m == 0b0010#4 && fingers,
   fun m fingers => m == 0b0101#4 && !fingers,
   fun m fingers => m == 0b0011#4 && !fingers,
   fun m fingers => m == 0b0110#4 && !fingers,
   fun m fingers => m == 0b0110#4 && fingers]

/-- The fields that no row takes (R156). -/
def nopFieldTest : FieldTest := fun m fingers => branchFieldTests.all fun test => !test m fingers

/-- A chord of modifiers alone is told by its fields. -/
theorem beq_chordOf_zero (hc : c.WF) (m : Mods) (mask : ChordMask) :
    (mask == chordOf c m 0#4) = (mods c mask == m && !(fset c mask != 0#4)) := by
  have hiff : mask = chordOf c m 0#4 ↔ mods c mask = m ∧ fset c mask = 0#4 := by
    conv_lhs => rw [← chordOf_mods_fset hc mask]
    exact chordOf_inj hc
  rw [Bool.eq_iff_iff]
  simp [hiff]

/-- The branch conditions are the field conditions, under every well-formed placement of the switches. -/
theorem branchTests_eq (hc : c.WF) : branchTests c = branchFieldTests.map (FieldTest.onMask c) := by
  simp only [branchTests, capsAlone, thumbNumAlone, thumbCapsAlone, numCapsAlone, beq_chordOf_zero hc]
  rfl

theorem isNopMask_eq (hc : c.WF) : isNopMask c = nopFieldTest.onMask c := by
  funext mask
  rw [isNopMask, branchTests_eq hc, List.all_map]
  rfl

/-- No two rows take the same fields. -/
theorem branchFieldTests_disjoint :
    ∀ (m : Mods) (fingers : Bool), branchFieldTests.countP (fun test => test m fingers) ≤ 1 := by decide

/-- No row takes Mods with the Repeat bit. -/
theorem nopFieldTest_of_repeat :
    ∀ (m : Mods) (fingers : Bool), m.getLsbD 3 = true → nopFieldTest m fingers = true := by decide

theorem isNopMask_of_repeat (hc : c.WF) {mask : ChordMask} (h : (mods c mask).getLsbD 3 = true) :
    isNopMask c mask = true := by
  rw [isNopMask_eq hc]
  exact nopFieldTest_of_repeat _ _ h

/-- What no row takes decodes to no code and no change (R156). -/
theorem decodeChord_of_isNopMask {mask : ChordMask} (h : isNopMask c mask = true) (v : ShiftState) :
    decodeChord c mask v = decNop v := by
  obtain ⟨hchar, hthumb, hnum, hcaps, hcmd, hnl, hpanic, heshift, hctm⟩ := isNopMask_iff.mp h
  rw [decodeChord, if_neg hchar, if_neg hthumb, if_neg hnum, if_neg hcaps, if_neg hcmd, if_neg hnl, if_neg hpanic,
    if_neg heshift, if_neg hctm]

/-! ### Counting masks -/

/-- Every word of `w` bits, once each. -/
def allWords (w : Nat) : List (BitVec w) := (List.range (2 ^ w)).map (BitVec.ofNat w)

theorem mem_allWords {w : Nat} (x : BitVec w) : x ∈ allWords w :=
  List.mem_map.mpr ⟨x.toNat, List.mem_range.mpr x.isLt, by simp⟩

theorem nodup_allWords (w : Nat) : (allWords w).Nodup := by
  refine List.Nodup.map_on (fun a ha b hb h => ?_) List.nodup_range
  rw [List.mem_range] at ha hb
  simpa [Nat.mod_eq_of_lt ha, Nat.mod_eq_of_lt hb] using congrArg BitVec.toNat h

/-- Every mask is the chord of one Mods and one Fset (R90). -/
theorem allWords_perm_chords (hc : c.WF) :
    (allWords 8).Perm ((allWords 4 ×ˢ allWords 4).map fun p => chordOf c p.1 p.2) := by
  have hnodup : ((allWords 4 ×ˢ allWords 4).map fun p => chordOf c p.1 p.2).Nodup :=
    ((nodup_allWords 4).product (nodup_allWords 4)).map fun _ _ h => Prod.ext_iff.mpr ((chordOf_inj hc).mp h)
  refine (List.perm_ext_iff_of_nodup (nodup_allWords 8) hnodup).mpr fun mask => iff_of_true (mem_allWords mask) ?_
  exact List.mem_map.mpr ⟨(mods c mask, fset c mask),
    List.pair_mem_product.mpr ⟨mem_allWords _, mem_allWords _⟩, chordOf_mods_fset hc mask⟩

/-- How many Fsets a field condition takes with these Mods: the empty one counts one, the others fifteen. -/
def FieldTest.fsetCount (test : FieldTest) (m : Mods) : Nat := (test m false).toNat + 15 * (test m true).toNat

theorem countP_fsets (test : FieldTest) (m : Mods) :
    (allWords 4).countP (fun f => test m (f != 0#4)) = test.fsetCount m := by
  have count : ∀ empty pressed : Bool,
      (allWords 4).countP (fun f => if f != 0#4 then pressed else empty) = empty.toNat + 15 * pressed.toNat := by decide
  rw [FieldTest.fsetCount, ← count]
  refine List.countP_congr fun f _ => ?_
  cases f != 0#4 <;> rfl

/-- How many masks a field condition takes, summed over the sixteen Mods. -/
theorem countP_onMask (hc : c.WF) (test : FieldTest) :
    (allWords 8).countP (test.onMask c) = ((allWords 4).map test.fsetCount).sum := by
  calc (allWords 8).countP (test.onMask c)
      = (allWords 4 ×ˢ allWords 4).countP (fun p => test p.1 (p.2 != 0#4)) := by
        rw [(allWords_perm_chords hc).countP_eq, List.countP_map]
        refine List.countP_congr fun p _ => ?_
        rw [Function.comp_apply, FieldTest.onMask, mods_chordOf hc, fset_chordOf hc]
    _ = ((allWords 4).map test.fsetCount).sum := by
        simp only [SProd.sprod, List.product, List.countP_flatMap]
        exact congrArg List.sum (List.map_congr_left fun m _ => countP_fsets test m)

end Sys2Proof.Machine
end

/-! ## The results of the branches -/

section
/-! What each branch returns (`41_decoder.md` R143 to R157), and what the decode cycle makes of a result (`40_sampler.md`
R125). -/

namespace Sys2Proof.Machine

open Sys2Proof

variable {c : Config} {s : State}

/-! ### The cascade -/

section
variable (c) (fam : TableFamily) (f : Fset) {v : ShiftState}

theorem cascade_eTier (he : v.esh = .transient) :
    cascade c fam f v = ⟨c.rom fam.eTier f, { v with esh := .off }, false⟩ := if_pos he

theorem cascade_nTier (he : v.esh = .off) (hn : v.num ≠ .off) :
    cascade c fam f v = ⟨c.rom fam.nTier f, { v with num := consume v.num }, false⟩ := by
  rw [cascade, if_neg (by simp [he]), if_pos hn]

theorem cascade_cTier (he : v.esh = .off) (hn : v.num = .off) (hk : v.caps ≠ .off) :
    cascade c fam f v = ⟨upper (c.rom fam.cTier f), { v with caps := consume v.caps }, false⟩ := by
  rw [cascade, if_neg (by simp [he]), if_neg (not_not.mpr hn), if_pos hk]

theorem cascade_pTier (he : v.esh = .off) (hn : v.num = .off) (hk : v.caps = .off) :
    cascade c fam f v = ⟨c.rom fam.pTier f, v, false⟩ := by
  rw [cascade, if_neg (by simp [he]), if_neg (not_not.mpr hn), if_neg (not_not.mpr hk)]

theorem decNum_eshift (he : v.esh = .transient) :
    decNum c f v = ⟨c.rom .ctm f, { v with esh := .off }, false⟩ := if_pos he

theorem decNum_plain (he : v.esh = .off) : decNum c f v = ⟨c.rom .num f, v, false⟩ := by
  rw [decNum, if_neg (by simp [he])]

end

/-- A flag that is written with the value it has leaves the flags as they were. -/
theorem withNum_self {v : ShiftState} {n : ShiftFlag} (h : v.num = n) : { v with num := n } = v := by
  subst h
  rfl

theorem withCaps_self {v : ShiftState} {k : ShiftFlag} (h : v.caps = k) : { v with caps := k } = v := by
  subst h
  rfl

/-- One step of the cycle Off, Transient, Locked, Off is `toggle` (R157). -/
theorem toggle_eq_of_step {flag next : ShiftFlag}
    (h : (flag = .off ∧ next = .transient) ∨ (flag = .transient ∧ next = .locked) ∨ (flag = .locked ∧ next = .off)) :
    toggle flag = next := by
  rcases h with ⟨rfl, rfl⟩ | ⟨rfl, rfl⟩ | ⟨rfl, rfl⟩ <;> rfl

/-! ### The cycle after a branch -/

/-- Where the composer runs on every chord, the cycle writes the flags and the shift event, then composes the code. -/
theorem afterDecode_eq_composeCycle (hon : c.composeOnNone = true) (r : Decoded) (s : State) :
    afterDecode c r s =
      composeCycle c (classify c r.code) ((s.withShift r.shift).withShiftEvt (s.shiftEvt || r.evt)) := by
  rw [afterDecode, if_pos (runsComposer_iff.mpr (.inl hon))]

/-- A branch without a code clears the pending modifier and forwards nothing (R185). -/
theorem afterDecode_noCode (hon : c.composeOnNone = true) (v : ShiftState) (b : Bool) (s : State) :
    afterDecode c ⟨0x00#8, v, b⟩ s = s.withRegs s.acc v (s.shiftEvt || b) .none := by
  rw [afterDecode_eq_composeCycle hon, classify, if_pos rfl, noKeyClass, composeCycle, composeClass_noKey,
    afterCompose_none rfl]
  rfl

theorem afterDecode_shift (c : Config) (r : Decoded) (s : State) : (afterDecode c r s).shift = r.shift := by
  rw [afterDecode_eq_offer, (offer_keepsFlags _ _ _).shift, withRegs_shift]

/-- A branch that reports no shift event completes as the composer's operation for its code, with its flags written. -/
theorem composesAs_of_afterDecode {i : Instr} {r : Decoded} {code : OutputCode} {v : ShiftState}
    (he : execAt blockConfig i s = afterDecode blockConfig r s) (hr : r = ⟨code, v, false⟩) :
    ComposesAs i s code (s.withShift v) := by
  refine ⟨_, exec_eq_execAt i s, ?_⟩
  rw [exec_eq_execAt, execAt_codeInstr, he, hr, afterDecode_eq_composeCycle rfl, Bool.or_false]
  rfl

/-- An operation that cascades over a table family, tier by tier (R143): only the selected tier's flag changes, and only
its Transient form. -/
theorem composesAs_of_cascade {i : Instr} {fam : TableFamily} {f : Fset}
    (he : execAt blockConfig i s = afterDecode blockConfig (cascade blockConfig fam f s.shift) s) :
    (s.shift.esh = .transient →
      ComposesAs i s (blockConfig.rom fam.eTier f) (s.withShift { s.shift with esh := .off })) ∧
    (s.shift.esh = .off → s.shift.num = .transient →
      ComposesAs i s (blockConfig.rom fam.nTier f) (s.withShift { s.shift with num := .off })) ∧
    (s.shift.esh = .off → s.shift.num = .locked → ComposesAs i s (blockConfig.rom fam.nTier f) s) ∧
    (s.shift.esh = .off → s.shift.num = .off → s.shift.caps = .transient →
      ComposesAs i s (upper (blockConfig.rom fam.cTier f)) (s.withShift { s.shift with caps := .off })) ∧
    (s.shift.esh = .off → s.shift.num = .off → s.shift.caps = .locked →
      ComposesAs i s (upper (blockConfig.rom fam.cTier f)) s) ∧
    (s.shift.esh = .off → s.shift.num = .off → s.shift.caps = .off →
      ComposesAs i s (blockConfig.rom fam.pTier f) s) := by
  refine ⟨fun hesh => ?_, fun hesh hnum => ?_, fun hesh hnum => ?_, fun hesh hnum hcaps => ?_,
    fun hesh hnum hcaps => ?_, fun hesh hnum hcaps => ?_⟩
  · exact composesAs_of_afterDecode he (cascade_eTier _ _ _ hesh)
  · have hr := cascade_nTier blockConfig fam f hesh (by simp [hnum])
    rw [hnum] at hr
    exact composesAs_of_afterDecode he hr
  · have hr := cascade_nTier blockConfig fam f hesh (by simp [hnum])
    rw [hnum, consume, withNum_self hnum] at hr
    exact composesAs_of_afterDecode he hr
  · have hr := cascade_cTier blockConfig fam f hesh hnum (by simp [hcaps])
    rw [hcaps] at hr
    exact composesAs_of_afterDecode he hr
  · have hr := cascade_cTier blockConfig fam f hesh hnum (by simp [hcaps])
    rw [hcaps, consume, withCaps_self hcaps] at hr
    exact composesAs_of_afterDecode he hr
  · exact composesAs_of_afterDecode he (cascade_pTier _ _ _ hesh hnum hcaps)

/-! ### The EShift flag -/

/-- The operations that clear a Transient EShift (R161). -/
def ClearsEShift (i : Instr) : Prop :=
  (∃ f, i = .decChar f) ∨ (∃ f, i = .decThumb f) ∨ (∃ f, i = .decNum f) ∨ i = .decPanicClear

/-- A decoder branch at a Transient EShift: the character, thumb and Num chords take the EShift tier and the panic clear
clears every flag; the others leave EShift or set it. -/
theorem execAt_decoder_esh_off_iff (c : Config) {i : Instr} (ho : opOwner i = .decoder)
    (hesh : s.shift.esh = .transient) : (execAt c i s).shift.esh = .off ↔ ClearsEShift i := by
  have branch {r : Decoded} (he : execAt c i s = afterDecode c r s) (hr : r.shift.esh = .off ↔ ClearsEShift i) :
      (execAt c i s).shift.esh = .off ↔ ClearsEShift i := by rwa [he, afterDecode_shift]
  cases i with
  | decChar f => exact branch rfl (by simp [decChar, cascade_eTier _ _ _ hesh, ClearsEShift])
  | decThumb f => exact branch rfl (by simp [decThumb, cascade_eTier _ _ _ hesh, ClearsEShift])
  | decNum f => exact branch rfl (by simp [decNum_eshift _ _ hesh, ClearsEShift])
  | decPanicClear => exact branch rfl (by simp [decPanicClear, ShiftState.allOff, ClearsEShift])
  | decCapsToggle => exact branch rfl (by simp [decCapsToggle, hesh, ClearsEShift])
  | decCommand f => exact branch rfl (by simp [decCommand, hesh, ClearsEShift])
  | decNumlockToggle => exact branch rfl (by simp [decNumlockToggle, hesh, ClearsEShift])
  | decEshiftSet => exact branch rfl (by simp [decEshiftSet, ClearsEShift])
  | decCountermand f => exact branch rfl (by simp [decCountermand, hesh, ClearsEShift])
  | decNop mask => exact branch rfl (by simp [decNop, hesh, ClearsEShift])
  | _ => cases ho

end Sys2Proof.Machine
end

/-! ## The obligations on the decoder -/

section

namespace Sys2Proof.Machine

open Sys2Proof

/-- Settles O4: the conditions read the fields of the mask, where the nine rows are disjoint; the masks are counted by
their Mods. -/
theorem branchConditionsAreDisjointAndCover : Obligations.BranchConditionsAreDisjointAndCover := by
  refine ⟨fun c hc mask => ?_, ?_, ?_⟩
  · rw [branchTests_eq hc, List.countP_map]
    exact branchFieldTests_disjoint _ _
  · calc (branchTests blockConfig).map (fun test => (allWords 8).countP test)
        = branchFieldTests.map fun test => ((allWords 4).map test.fsetCount).sum := by
          rw [branchTests_eq blockConfig_wf, List.map_map]
          exact List.map_congr_left fun test _ => countP_onMask blockConfig_wf test
      _ = [15, 16, 15, 1, 15, 1, 1, 1, 15] := by decide
  · calc (allWords 8).countP (isNopMask blockConfig)
        = ((allWords 4).map nopFieldTest.fsetCount).sum := by
          rw [isNopMask_eq blockConfig_wf, countP_onMask blockConfig_wf]
      _ = 176 := by decide

/-- Settles O5: no row takes Mods with the Repeat bit, so the mask is a no-op mask. -/
theorem repeatMasksAreNoOps : Obligations.RepeatMasksAreNoOps := by
  intro c hc mask hrepeat
  have hnop : isNopMask c mask = true := isNopMask_of_repeat hc hrepeat
  exact ⟨chordInstr_of_isNopMask hnop, decodeChord_of_isNopMask hnop⟩

/-- Settles O20: the cascade over `PLAINFAM`. -/
theorem charChordCascades : Obligations.CharChordCascades :=
  fun f _ => composesAs_of_cascade (fam := plainFamily) (f := f) rfl

/-- Settles O21: the cascade over `THUMBFAM`. -/
theorem thumbChordCascades : Obligations.ThumbChordCascades :=
  fun f _ => composesAs_of_cascade (fam := thumbFamily) (f := f) rfl

/-- Settles O22: by the two paths of the branch. -/
theorem numChordOverridesTheCascade : Obligations.NumChordOverridesTheCascade :=
  fun _ _ => ⟨fun hesh => composesAs_of_afterDecode rfl (decNum_eshift _ _ hesh),
    fun hesh => composesAs_of_afterDecode rfl (decNum_plain _ _ hesh)⟩

/-- Settles O24: the branch has no code, and its shift event is recorded whatever the record held. -/
theorem capsAloneTogglesCaps : Obligations.CapsAloneTogglesCaps := by
  intro s next hstep
  rw [exec_eq_execAt, execAt, decCapsToggleAt, decCapsToggle, toggle_eq_of_step hstep, afterDecode_noCode rfl,
    Bool.or_true]
  rfl

/-- Settles O25: the branch has no code and reports no shift event. -/
theorem thumbNumTogglesNumLock : Obligations.ThumbNumTogglesNumLock := by
  intro s next hstep
  rw [exec_eq_execAt, execAt, decNumlockToggleAt, decNumlockToggle, toggle_eq_of_step hstep, afterDecode_noCode rfl,
    Bool.or_false]
  rfl

/-- Settles O27: the selected operation is a decoder branch (`execAt_decoder_esh_off_iff`). -/
theorem eShiftIsSingleShot : Obligations.EShiftIsSingleShot :=
  fun mask _ hesh =>
    ⟨_, exec_eq_execAt _ _, execAt_decoder_esh_off_iff blockConfig (opOwner_chordInstr blockConfig mask) hesh⟩

/-- Settles O23: neither branch reads or writes a flag. -/
theorem commandAndCountermandLeaveTheFlags : Obligations.CommandAndCountermandLeaveTheFlags :=
  fun _ _ => ⟨composesAs_of_afterDecode rfl rfl, composesAs_of_afterDecode rfl rfl⟩

/-- Settles O26: each of the three has no code and reports no shift event. -/
theorem gesturesWithoutACode : Obligations.GesturesWithoutACode := by
  intro s
  have gesture {i : Instr} (v : ShiftState)
      (he : execAt blockConfig i s = afterDecode blockConfig ⟨0x00#8, v, false⟩ s) :
      exec i s = .next (s.withRegs s.acc v s.shiftEvt .none) := by
    rw [exec_eq_execAt, he, afterDecode_noCode rfl, Bool.or_false]
  exact ⟨gesture .allOff rfl, gesture { s.shift with esh := .transient } rfl, fun _ => gesture s.shift rfl⟩

/-- Settles O28. -/
theorem upperMapsSmallLettersOnly : Obligations.UpperMapsSmallLettersOnly := by
  intro code
  refine ⟨fun hlo hhi => ?_, fun h => ?_⟩
  · rw [upper, if_pos (by bv_omega)]
    bv_omega
  · exact if_neg (by bv_omega)

end Sys2Proof.Machine
end

/-! ## The composer's cycles -/

section
/-! What one composer cycle does with each class of code (`42_composer.md` R180), what stays pending after it (R198), the
lanes of a key's report (R182, R183), a code's own modifier bit (R181), and the rows of the keycode maps (R196, R197). -/

namespace Sys2Proof.Machine

open Sys2Proof

variable {c : Config} {s : State}

/-! ### The cycle of each class -/

theorem composeCycle_noKey (c : Config) (m : ModByte) (s : State) :
    composeCycle c (.key 0x00#8 m) s = s.withPending .none := by
  rw [composeCycle, composeClass_noKey, afterCompose_none rfl]

theorem composeCycle_start (c : Config) (x : Pending) (s : State) :
    composeCycle c (.start x) s = s.withPending (startPending c x s.pending) := by
  rw [composeCycle, composeClass_start, afterCompose_none rfl]

theorem composeCycle_key (hc : c.relayCap = 1) {kc : Keycode} (m : ModByte) (s : State) (hk : kc ≠ 0x00#8) :
    composeCycle c (.key kc m) s = pushedState (keyReport c kc m s.pending) (s.withPending .none) := by
  rw [composeCycle, composeClass_key m _ hk, afterCompose_some rfl, pushReport_eq_pushedState hc]

theorem pushedState_of_empty (hr : s.relayFull = false) (w : Report) : pushedState w s = s.relayPut w :=
  if_neg (by simp [hr])

/-! ### A start code -/

@[simp] theorem startPending_none (c : Config) (x : Pending) : startPending c x .none = x := if_pos rfl

theorem startPending_drop {x p : Pending} (hp : p ≠ .none) (hd : c.startAfterPending = .drop) :
    startPending c x p = .none := by
  rw [startPending, if_neg hp, hd]

theorem startPending_relatch {x p : Pending} (hr : c.startAfterPending = .relatch) : startPending c x p = x := by
  rw [startPending, hr, ite_self]

/-- A start code leaves a modifier pending only where it latched its own (R180). -/
theorem startPending_ne_none {x p : Pending} (h : startPending c x p ≠ .none) :
    startPending c x p = x ∧ (p = .none ∨ c.startAfterPending = .relatch) := by
  by_cases hp : p = .none
  · subst hp
    exact ⟨startPending_none c x, .inl rfl⟩
  · cases ha : c.startAfterPending with
    | drop => exact absurd (startPending_drop hp ha) h
    | relatch => exact ⟨startPending_relatch ha, .inr rfl⟩

/-! ### What stays pending -/

@[simp] theorem composeClass_key_pending (c : Config) (kc : Keycode) (m : ModByte) (p : Pending) :
    (composeClass c (.key kc m) p).pending = .none := by
  by_cases hk : kc = 0x00#8
  · rw [hk, composeClass_noKey]
  · rw [composeClass_key m p hk]

/-- Only a start code that latched leaves a modifier pending (R198). -/
theorem compose_pending_ne_none {code : OutputCode} {p : Pending} (h : (compose c code p).pending ≠ .none) :
    (∃ x, classify c code = .start x ∧ (compose c code p).pending = x) ∧
      (p = .none ∨ c.startAfterPending = .relatch) := by
  unfold compose at h ⊢
  cases hcls : classify c code with
  | key kc m => simp [hcls] at h
  | start x =>
    rw [hcls, composeClass_start] at h
    obtain ⟨hlatch, hwhy⟩ := startPending_ne_none h
    exact ⟨⟨x, rfl, hlatch⟩, hwhy⟩

theorem offer_pending (c : Config) (o : Option Report) (s : State) : (offer c o s).pending = s.pending := by
  cases o with
  | none => rfl
  | some w =>
    rw [offer_some, pushReport]
    split <;> rfl

theorem decodeCycle_pending (hon : c.composeOnNone = true) (chord : ChordMask) (s : State) :
    (decodeCycle c chord s).pending = (compose c (decodeChord c chord s.shift).code s.pending).pending := by
  rw [decodeCycle, afterDecode_eq_offer, offer_pending, withRegs_pending, decodedPending,
    if_pos (runsComposer_iff.mpr (.inl hon))]

/-! ### The report of a key -/

/-- One layout for every pending modifier: without one, the markers are zero (R182, R183). -/
theorem keyReport_eq_pack (hw : c.reportW = 32) (kc : Keycode) (m : ModByte) (p : Pending) :
    keyReport c kc m p = pack kc (markers c p).1 (markers c p).2.1 (m ||| (markers c p).2.2) := by
  rw [keyReport, atReportWidth_eq hw]
  split
  next hp => rw [hp, markers, BitVec.or_zero]
  next => rfl

theorem lanes_keyReport (hw : c.reportW = 32) (kc : Keycode) (m : ModByte) (p : Pending) :
    lane (keyReport c kc m p) 1 = (markers c p).1 ∧ lane (keyReport c kc m p) 2 = (markers c p).2.1 ∧
      lane (keyReport c kc m p) 3 = m ||| (markers c p).2.2 := by
  rw [keyReport_eq_pack hw]
  exact ⟨lane_one_pack _ _ _ _, lane_two_pack _ _ _ _, lane_three_pack _ _ _ _⟩

theorem keyReport_eq_chainedReport (kc : Keycode) (m : ModByte) (p : Pending) :
    keyReport blockConfig kc m p = chainedReport kc m p := by
  rw [keyReport_eq_pack rfl]
  cases p with
  | none =>
    rw [markers, BitVec.or_zero]
    rfl
  | ctrl | alt | altctrl | gui => rfl

/-- An operation that runs the cycle of a key forwards that key. -/
theorem forwardsKey_of_cycle {i : Instr} {kc : Keycode} {m : ModByte}
    (he : execAt blockConfig i s = composeCycle blockConfig (.key kc m) s) (hk : kc ≠ 0x00#8) : ForwardsKey i kc m s := by
  rw [ForwardsKey, exec_eq_execAt, he, composeCycle_key rfl m s hk, keyReport_eq_chainedReport]
  rfl

/-! ### The code's own modifier bit -/

/-- A code of the class has no modifier bit of its own, or one: GUI, Shift or right Alt (R181). -/
def CodeClass.OwnBit (c : Config) : CodeClass → Prop
  | .key _ m => m ∈ [0x00#8, c.modLgui, c.modLshift, c.modRalt]
  | .start _ => True

theorem printableClass_ownBit (c : Config) (code : OutputCode) : (printableClass c code).OwnBit c := by
  cases hs : (c.asciiKeymap code).shift <;> simp [printableClass, CodeClass.OwnBit, hs]

/-- Every row of `CLASSIFY` gives such a class. -/
theorem classify_ownBit (c : Config) (code : OutputCode) : (classify c code).OwnBit c := by
  have hstart (x : Pending) : (CodeClass.start x).OwnBit c := trivial
  have hbare (kc : Keycode) : (CodeClass.key kc 0x00#8).OwnBit c := List.mem_cons_self
  have hgui : (guiKeyClass c).OwnBit c := by simp [guiKeyClass, CodeClass.OwnBit]
  have hext1 : (ext1Class c).OwnBit c := by simp [ext1Class, CodeClass.OwnBit]
  have hext2 : (ext2Class c).OwnBit c := by simp [ext2Class, CodeClass.OwnBit]
  unfold classify
  refine iteInduction (fun _ => hbare _) fun _ => iteInduction (fun _ => hstart _) fun _ => ?_
  refine iteInduction (fun _ => hstart _) fun _ => iteInduction (fun _ => hstart _) fun _ => ?_
  refine iteInduction (fun _ => hstart _) fun _ => iteInduction (fun _ => hgui) fun _ => ?_
  refine iteInduction (fun _ => hbare _) fun _ => iteInduction (fun _ => printableClass_ownBit c code) fun _ => ?_
  exact iteInduction (fun _ => hext1) fun _ => iteInduction (fun _ => hext2) fun _ => hbare _

/-! ### The rows of the maps -/

/-- Each row of the control keys gives an assigned code its keycode (R191, R196). -/
theorem ctrlKeyRow_mapped {code : OutputCode} {kc : Keycode} (h : (code, kc) ∈ ctrlKeyRows) :
    code ∈ blockConfig.ctrlKeys ∧ blockConfig.keymapCtrl code = kc ∧ kc ≠ 0x00#8 := by
  have hmap : ctrlKeyRows.map (fun row => keymapCtrlDefault row.1) = ctrlKeyRows.map Prod.snd := rfl
  have hkeyed : 0x00#8 ∉ ctrlKeyRows.map Prod.snd := by decide
  exact ⟨List.mem_map_of_mem h, List.map_inj_left.mp hmap _ h, fun h0 => hkeyed (h0 ▸ List.mem_map_of_mem h)⟩

/-- A run of consecutive codes with consecutive keycodes, row by row. -/
theorem mem_ctrlKeyRows_of_run {first n : Nat} {key : Keycode}
    (hrows : ∀ k < n, (BitVec.ofNat 8 (first + k), key + BitVec.ofNat 8 (first + k)) ∈ ctrlKeyRows) {code : OutputCode}
    (hlo : first ≤ code.toNat) (hhi : code.toNat < first + n) : (code, key + code) ∈ ctrlKeyRows := by
  have hrow := hrows (code.toNat - first) (by omega)
  rwa [Nat.add_sub_cancel' hlo, BitVec.ofNat_toNat, BitVec.setWidth_eq] at hrow

theorem isPrintable_iff {code : OutputCode} : isPrintable code = true ↔ 0x20 ≤ code.toNat ∧ code.toNat ≤ 0x7E := by
  simp [isPrintable, BitVec.le_def]

/-- Every printable code has a key (R197). -/
theorem asciiKeymap_keyed {code : OutputCode} (hlo : 0x20 ≤ code.toNat) (hhi : code.toNat ≤ 0x7E) :
    (blockConfig.asciiKeymap code).kc ≠ 0x00#8 := by
  have hrows : ∀ row ∈ asciiRows, row.kc ≠ 0x00#8 := by decide
  have hlen : code.toNat - 0x20 < asciiRows.length := by
    have h95 : asciiRows.length = 95 := rfl
    omega
  have hrow : blockConfig.asciiKeymap code = asciiRows[code.toNat - 0x20] :=
    (if_pos ⟨hlo, hhi⟩).trans (List.getD_eq_getElem _ _ hlen)
  rw [hrow]
  exact hrows _ (List.getElem_mem hlen)

theorem codeInstr_printable (hc : c.WF) {code : OutputCode} (h : isPrintable code = true) :
    codeInstr c code = .compPrintable code := by
  rw [codeInstr_of_not_assigned (printable_ne_none h) (printable_not_assigned hc h), if_pos h]

end Sys2Proof.Machine
end

/-! ## The obligations on the composer -/

section

namespace Sys2Proof.Machine

open Sys2Proof

/-- Settles O37: the four forms of the hypothesis are the rows of the control keys, each of which the code selects and the
map gives its keycode. -/
theorem controlKeysAreForwarded : Obligations.ControlKeysAreForwarded := by
  intro s code kc h
  have hrow : (code, kc) ∈ ctrlKeyRows := by
    rcases h with hlisted | ⟨hlo, hhi, rfl⟩ | ⟨rfl, rfl⟩ | ⟨hlo, hhi, rfl⟩
    · exact List.mem_append_left ctrlKeyRows2 hlisted
    · rw [BitVec.add_comm]
      exact mem_ctrlKeyRows_of_run (n := 9) (by decide) hlo (by omega)
    · decide
    · rw [BitVec.add_comm]
      exact mem_ctrlKeyRows_of_run (n := 3) (by decide) hlo (by omega)
  obtain ⟨hmem, rfl, hk⟩ := ctrlKeyRow_mapped hrow
  obtain ⟨-, -, -, -, -, hselects⟩ := codeInstr_assigned blockConfig_wf
  exact ⟨hselects code hmem, forwardsKey_of_cycle rfl hk⟩

/-- Settles O38: a printable code selects its operation, and the map gives it a key. -/
theorem printableCodesAreForwarded : Obligations.PrintableCodesAreForwarded :=
  fun _ _ hlo hhi =>
    ⟨codeInstr_printable blockConfig_wf (isPrintable_iff.mpr ⟨hlo, hhi⟩),
      forwardsKey_of_cycle rfl (asciiKeymap_keyed hlo hhi)⟩

/-- Settles O41. -/
theorem pendingComesFromAStartCode : Obligations.PendingComesFromAStartCode :=
  fun _ _ _ h => compose_pending_ne_none h

/-- Settles O42: the decode cycle composes the chord's code, and under `DROP` no code leaves a modifier pending that found
one (O41). -/
theorem pendingEndsWithTheNextChord : Obligations.PendingEndsWithTheNextChord := by
  intro mask s hp
  refine ⟨_, exec_eq_execAt _ s, ?_⟩
  rw [execAt_chordInstr, decodeCycle_pending rfl]
  by_contra hpending
  obtain ⟨-, hnone | hrelatch⟩ := compose_pending_ne_none hpending
  · exact hp hnone
  · exact absurd hrelatch (by decide)

/-- Settles O43: lane 0 holds the key, lanes 1 and 2 the markers, and lane 3 the code's own bit with those of the
markers. -/
theorem reportsHoldOneToThreeKeycodes : Obligations.ReportsHoldOneToThreeKeycodes := by
  intro code p w h
  obtain ⟨kc, m, hcls, hk, rfl⟩ := composeClass_report_eq_some h
  obtain ⟨h1, h2, h3⟩ := lanes_keyReport (c := blockConfig) rfl kc m p
  rw [lane_zero_keyReport rfl, h1, h2, h3, List.countP_cons_of_pos (by simpa using hk)]
  have hbits : ∀ own ∈ [0x00#8, 0x08#8, 0x02#8, 0x40#8],
      (List.range 8).countP (fun k => (own ||| (markers blockConfig p).2.2).getLsbD k) ≤ 3 := by
    cases p <;> decide
  have hown : (CodeClass.key kc m).OwnBit blockConfig := hcls ▸ classify_ownBit blockConfig code
  refine ⟨?_, ?_, ?_, hbits m hown⟩
  · rintro rfl
    decide
  · rintro (rfl | rfl | rfl) <;> decide
  · rintro rfl
    decide

/-- Settles O33. -/
theorem codesWithoutAKeyClearPending : Obligations.CodesWithoutAKeyClearPending :=
  fun s => ⟨congrArg Host.Outcome.next (composeCycle_noKey blockConfig _ s),
    fun _ => congrArg Host.Outcome.next (composeCycle_noKey blockConfig _ s)⟩

/-- Settles O34: each start operation is the cycle of its start class, at the policy `DROP`. -/
theorem startCodesLatchOrAreDropped : Obligations.StartCodesLatchOrAreDropped := by
  intro s
  have start {i : Instr} {x : Pending} (p : Pending)
      (he : execAt blockConfig i s = composeCycle blockConfig (.start x) s)
      (hx : startPending blockConfig x s.pending = p) : exec i s = .next { s with pending := p } := by
    rw [exec_eq_execAt, he, composeCycle_start, hx]
    rfl
  refine ⟨fun hp => ?_, fun hp => ?_⟩
  · have latch (x : Pending) : startPending blockConfig x s.pending = x := hp ▸ startPending_none _ x
    exact ⟨start .ctrl rfl (latch _), start .alt rfl (latch _), start .altctrl rfl (latch _), start .gui rfl (latch _)⟩
  · have drop (x : Pending) : startPending blockConfig x s.pending = .none := startPending_drop hp rfl
    exact ⟨start .none rfl (drop .ctrl), start .none rfl (drop .alt), start .none rfl (drop .altctrl),
      start .none rfl (drop .gui)⟩

/-- Settles O35: a start code is absorbed, and what is pending after it is `startPending`. -/
theorem startCodeUnderEitherPolicy : Obligations.StartCodeUnderEitherPolicy := by
  intro c code x p hcls
  rw [compose, hcls, composeClass_start]
  refine ⟨?_, fun hp hd => ?_, fun _ hr => ?_⟩
  · rintro rfl
    rw [startPending_none]
  · rw [startPending_drop hp hd]
  · rw [startPending_relatch hr]

/-- Settles O36: each of the three is the cycle of its key. -/
theorem guiAndCurrencyKeysAreForwarded : Obligations.GuiAndCurrencyKeysAreForwarded :=
  fun _ => ⟨forwardsKey_of_cycle rfl (by decide), forwardsKey_of_cycle rfl (by decide),
    forwardsKey_of_cycle rfl (by decide)⟩

/-- Settles O39: by the rows of the map. -/
theorem asciiMapOfLettersAndDigits : Obligations.AsciiMapOfLettersAndDigits := by
  have letters : ∀ k < 26,
      asciiKeymapDefault (BitVec.ofNat 8 (0x61 + k)) = ⟨BitVec.ofNat 8 (0x04 + k), false⟩ ∧
      asciiKeymapDefault (BitVec.ofNat 8 (0x41 + k)) = ⟨BitVec.ofNat 8 (0x04 + k), true⟩ := by decide
  have digits : ∀ k < 9,
      asciiKeymapDefault (BitVec.ofNat 8 (0x31 + k)) = ⟨BitVec.ofNat 8 (0x1E + k), false⟩ := by decide
  exact ⟨letters, digits, rfl⟩

/-- Settles O44: the start code latches Ctrl (O34), and the printable code forwards its key with the Ctrl markers (O38) into
the empty relay. -/
theorem ctrlChainForwardsOneReport : Obligations.CtrlChainForwardsOneReport := by
  intro s code hp hr hlo hhi
  obtain ⟨hlatch, -⟩ := (startCodesLatchOrAreDropped s).1 hp
  obtain ⟨-, hforward⟩ := printableCodesAreForwarded (s.withPending .ctrl) code hlo hhi
  have hcleared : (s.withPending .ctrl).withPending .none = s := hp ▸ rfl
  have hpush (w : Report) : pushedState w ((s.withPending .ctrl).withPending .none) = s.relayPut w := by
    rw [hcleared, pushedState_of_empty hr]
  refine ⟨_, _, hlatch, hforward.trans (congrArg Host.Outcome.next (hpush _)), rfl, rfl, lane_zero_pack _ _ _ _,
    lane_one_pack _ _ _ _, lane_two_pack _ _ _ _, ?_⟩
  refine (lane_three_pack _ _ _ _).trans ?_
  split <;> rfl

end Sys2Proof.Machine
end

/-! ## Runs of enqueues and of pops -/

section
/-! What a list of enqueues leaves in the queue and what a number of pops returns, at every capacity (`43_relay_queue.md`
R224 to R227), and what a drain and a retry do where they are enabled and where they are not (R222, R223). -/

namespace Sys2Proof.Machine

open Sys2Proof

variable {c : Config} {s : State}

/-! ### Many words -/

@[simp] theorem enqueueAll_cons (c : Config) (w : Report) (ws : List Report) (s : State) :
    enqueueAll c (w :: ws) s = enqueueAll c ws (enqueue c w s) := rfl

@[simp] theorem popsReturn_succ (c : Config) (n : Nat) (s : State) :
    popsReturn c (n + 1) s = (dequeue c s).popData :: popsReturn c n (dequeue c s) := rfl

theorem enqueueAll_keeps_shape (ws : List Report) (h : s.QueueShape c) : (enqueueAll c ws s).QueueShape c := by
  induction ws generalizing s with
  | nil => exact h
  | cons w ws ih => exact ih (enqueue_keeps_shape w h)

/-- A full queue drops every word (R225). -/
theorem enqueueAll_full (ws : List Report) (hn : ¬ s.qCount < c.queueCap) : enqueueAll c ws s = s := by
  induction ws with
  | nil => rfl
  | cons w ws ih => rw [enqueueAll_cons, enqueue_full w hn, ih]

/-- The queue takes as many of the words as it has room for, the first ones (R224), and drops the others (R225). -/
theorem liveEntries_enqueueAll (ws : List Report) (h : s.QueueShape c) :
    liveEntries c (enqueueAll c ws s) = liveEntries c s ++ ws.take (c.queueCap - s.qCount) := by
  induction ws generalizing s with
  | nil => simp [enqueueAll]
  | cons w ws ih =>
    by_cases hn : s.qCount < c.queueCap
    · have hcount : (enqueue c w s).qCount = s.qCount + 1 := by rw [enqueue_room w hn, withWindow_qCount]
      have hroom : c.queueCap - s.qCount = (c.queueCap - (s.qCount + 1)) + 1 := by omega
      rw [enqueueAll_cons, ih (enqueue_keeps_shape w h), hcount, liveEntries_enqueue_room w h hn, hroom,
        List.take_succ_cons, List.append_assoc, List.singleton_append]
    · have hnone : c.queueCap - s.qCount = 0 := by omega
      rw [enqueueAll_full _ hn, hnone, List.take_zero, List.append_nil]

/-- Pops return the live entries, oldest first (R226), and the sentinel once those are gone (R227). -/
theorem popsReturn_eq (n : Nat) (h : s.QueueShape c) :
    popsReturn c n s = (liveEntries c s).take n ++ List.replicate (n - s.qCount) 0x00000000#32 := by
  rw [← liveEntries_length c s]
  induction n generalizing s with
  | zero => simp [popsReturn]
  | succ n ih =>
    rw [popsReturn_succ, dequeue_popData h, ih (dequeue_keeps_shape h), liveEntries_dequeue h]
    cases liveEntries c s with
    | nil => simp [List.replicate_succ]
    | cons w rest => simp

/-! ### Enabled and not enabled -/

theorem retry_of_enabled (hc : c.relayCap = 1) (hp : s.sphase = .stalled) (hr : s.relayFull = false) :
    retry c s = (s.relayPut s.hold).resumed := by
  rcases retry_cases hc s with ⟨-, -, e⟩ | ⟨hnot, -⟩
  · exact e
  · exact absurd ⟨hp, hr⟩ hnot

theorem retry_of_not_enabled (hc : c.relayCap = 1) (h : s.sphase = .idle ∨ s.relayFull = true) : retry c s = s := by
  rcases retry_cases hc s with ⟨hp, hr, -⟩ | ⟨-, e⟩
  · simp [hp, hr] at h
  · exact e

theorem drainRelay_of_full (c : Config) (h : s.relayFull = true) :
    drainRelay c s = enqueue c s.relayData s.relayTaken := if_pos h

theorem drainRelay_of_empty (c : Config) (h : s.relayFull = false) : drainRelay c s = s :=
  if_neg (by simp [drainEnabled, h])

/-- An operation of the machine completes with the state it gives at `blockConfig`. -/
theorem exec_eq_next {i : Instr} {t : State} (h : execAt blockConfig i s = t) : exec i s = .next t :=
  h ▸ exec_eq_execAt i s

end Sys2Proof.Machine
end

/-! ## The obligations on the relay and the queue -/

section

namespace Sys2Proof.Machine

open Sys2Proof

/-- Settles O51: the queue takes all words but the last (`liveEntries_enqueueAll`), and the pops return these and one
sentinel (`popsReturn_eq`). -/
theorem overflowDropsTheNewest : Obligations.OverflowDropsTheNewest := by
  intro c s ws h hn hlen
  have hlive : liveEntries c (enqueueAll c ws s) = ws.take c.queueCap := by
    rw [liveEntries_enqueueAll ws h, liveEntries_eq_nil hn, hn, List.nil_append, Nat.sub_zero]
  have hcount : (enqueueAll c ws s).qCount = c.queueCap := by
    rw [← liveEntries_length c, hlive, List.length_take, hlen, Nat.min_eq_left (Nat.le_succ _)]
  rw [popsReturn_eq _ (enqueueAll_keeps_shape ws h), hlive, hcount, List.take_take, Nat.min_eq_right (Nat.le_succ _),
    Nat.add_sub_cancel_left, List.replicate_one]

/-- Settles O45. -/
theorem pushFillsTheRelayOrStalls : Obligations.PushFillsTheRelayOrStalls :=
  fun w _ => ⟨fun hr => exec_eq_next (pushReport_empty w rfl hr), fun hr => exec_eq_next (pushReport_full w rfl hr)⟩

/-- Settles O46. -/
theorem retryCompletesTheStalledPush : Obligations.RetryCompletesTheStalledPush :=
  fun _ hp hr => exec_eq_next (retry_of_enabled rfl hp hr)

/-- Settles O47: the drain is an enqueue of the relay word into the queue behind the emptied relay, with room or without. -/
theorem drainEnqueuesOrDrops : Obligations.DrainEnqueuesOrDrops := by
  intro s hr
  refine ⟨fun hroom => exec_eq_next ?_, fun hfull => exec_eq_next ?_⟩
  · exact (drainRelay_of_full blockConfig hr).trans (enqueue_room s.relayData hroom)
  · exact (drainRelay_of_full blockConfig hr).trans (enqueue_full s.relayData (Nat.not_lt.mpr hfull))

/-- Settles O48: the entry at the head is the slot a pop reads. -/
theorem popReturnsTheOldestOrTheSentinel : Obligations.PopReturnsTheOldestOrTheSentinel := by
  intro s
  refine ⟨fun w hn hhead => exec_eq_next ?_, fun hn => exec_eq_next (dequeue_empty hn)⟩
  have hslot : s.slot s.qHead = w := by rw [State.slot, List.getD_eq_getElem?_getD, hhead, Option.getD_some]
  exact hslot ▸ dequeue_some hn

/-- Settles O49. -/
theorem stepsNotEnabledChangeNothing : Obligations.StepsNotEnabledChangeNothing :=
  fun _ => ⟨fun h => exec_eq_next (retry_of_not_enabled rfl h), fun hr => exec_eq_next (drainRelay_of_empty blockConfig hr)⟩

end Sys2Proof.Machine
end

/-! ## The choice of a step, and a drain beside a pop -/

section
/-! Which operation a step runs (`60_exceptions.md` R253, R254), the relay and `pop_data` after a Reporter step, and how far a
drain and a pop commute (R257). -/

namespace Sys2Proof.Machine

open Sys2Proof

variable {c : Config} {s : State}

/-! ### The operation a step runs -/

/-- A step serves the head of the script. -/
theorem step_of_line {l : Line} {rest : List Line} {i : Instr} (hs : s.script = l :: rest)
    (hi : decodeLine blockConfig l = .ok i) : step s = exec i (s.withScript rest) := by
  have hline : nextLine s = some (l, s.withScript rest) := nextLine_eq_some_iff.mpr ⟨rest, hs, rfl⟩
  simp only [step, hline, hi]

theorem nextLine_nil (hs : s.script = []) : nextLine s = none := by
  simp [nextLine, hs]

theorem step_of_internalStep {i : Instr} (hs : s.script = []) (hi : internalStep blockConfig s = some i) :
    step s = exec i s := by
  simp only [step, nextLine_nil hs, hi]

theorem step_of_no_internalStep (hs : s.script = []) (hi : internalStep blockConfig s = none) : step s = .next s := by
  simp only [step, nextLine_nil hs, hi]

/-- A stalled Scanner behind an empty relay retries (R222). -/
theorem internalStep_retry (hc : c.relayCap = 1) (hp : s.sphase = .stalled) (hr : s.relayFull = false) :
    internalStep c s = some .retryPush := by
  simp [internalStep, retryEnabled, relayRoom_eq hc, hp, hr]

/-- A full relay is drained (R223): it leaves no room for a retry. -/
theorem internalStep_drain (hc : c.relayCap = 1) (hr : s.relayFull = true) : internalStep c s = some .drain := by
  simp [internalStep, retryEnabled, drainEnabled, relayRoom_eq hc, hr]

/-- An idle Scanner and an empty relay have no internal step. -/
theorem internalStep_none (hp : s.sphase = .idle) (hr : s.relayFull = false) : internalStep c s = none := by
  simp [internalStep, retryEnabled, drainEnabled, hp, hr]

/-! ### The relay and `pop_data` -/

@[simp] theorem enqueue_relayFull (c : Config) (w : Report) (s : State) : (enqueue c w s).relayFull = s.relayFull := by
  by_cases hn : s.qCount < c.queueCap
  · rw [enqueue_room w hn, withWindow_relayFull, withSlot_relayFull]
  · rw [enqueue_full w hn]

@[simp] theorem enqueue_popData (c : Config) (w : Report) (s : State) : (enqueue c w s).popData = s.popData := by
  by_cases hn : s.qCount < c.queueCap
  · rw [enqueue_room w hn, withWindow_popData, withSlot_popData]
  · rw [enqueue_full w hn]

/-- Whether enabled or not, a drain leaves the relay empty (R223). -/
@[simp] theorem drainRelay_relayFull (c : Config) (s : State) : (drainRelay c s).relayFull = false := by
  rcases drainRelay_cases c s with ⟨-, e⟩ | ⟨hr, e⟩ <;> rw [e]
  · rw [enqueue_relayFull, relayTaken_relayFull]
  · exact hr

@[simp] theorem drainRelay_popData (c : Config) (s : State) : (drainRelay c s).popData = s.popData := by
  rcases drainRelay_cases c s with ⟨-, e⟩ | ⟨-, e⟩ <;> rw [e]
  rw [enqueue_popData, relayTaken_popData]

@[simp] theorem dequeue_relayFull (c : Config) (s : State) : (dequeue c s).relayFull = s.relayFull := by
  by_cases hn : 0 < s.qCount
  · rw [dequeue_some hn, withWindow_relayFull, withPopData_relayFull]
  · rw [dequeue_empty (by omega), withPopData_relayFull]

/-- A pop reads and writes nothing of the relay. -/
theorem dequeue_relayTaken (c : Config) (s : State) : dequeue c s.relayTaken = (dequeue c s).relayTaken := by
  by_cases hn : 0 < s.qCount
  · rw [dequeue_some hn, dequeue_some (s := s.relayTaken) hn]
    rfl
  · have hzero : s.qCount = 0 := by omega
    rw [dequeue_empty hzero, dequeue_empty (s := s.relayTaken) hzero]
    rfl

theorem relayTaken_keeps_shape (h : s.QueueShape c) : s.relayTaken.QueueShape c :=
  ⟨h.mem_length, h.head_lt, h.count_le⟩

/-- A drain appends the relay word where there is room (R224) and drops it where there is none (R225). -/
theorem liveEntries_drainRelay (h : s.QueueShape c) (hr : s.relayFull = true) :
    liveEntries c (drainRelay c s) =
      if s.qCount < c.queueCap then liveEntries c s ++ [s.relayData] else liveEntries c s := by
  rw [drainRelay_of_full c hr, liveEntries_enqueue _ (relayTaken_keeps_shape h), liveEntries_length]
  rfl

theorem dequeue_qCount (c : Config) (s : State) : (dequeue c s).qCount = s.qCount - 1 := by
  by_cases hn : 0 < s.qCount
  · rw [dequeue_some hn, withWindow_qCount]
  · rw [dequeue_empty (by omega), withPopData_qCount]
    omega

/-! ### The internal steps -/

/-- With no line left a full relay is drained. -/
theorem step_drains (hs : s.script = []) (hr : s.relayFull = true) :
    ∃ t, step s = .next t ∧ KeepsScannerState s t ∧ t.relayFull = false :=
  ⟨drainRelay blockConfig s, step_of_internalStep hs (internalStep_drain rfl hr), drainRelay_keepsScannerState blockConfig s,
    drainRelay_relayFull blockConfig s⟩

/-- With no line left a stalled Scanner behind an empty relay completes its push. -/
theorem step_retries (hs : s.script = []) (hp : s.sphase = .stalled) (hr : s.relayFull = false) :
    step s = .next (s.relayPut s.hold).resumed :=
  (step_of_internalStep hs (internalStep_retry rfl hp hr)).trans (exec_eq_next (retry_of_enabled rfl hp hr))

/-! ### Both orders -/

/-- Away from the boundaries an enqueue and a dequeue commute: the slot written is not the head read, and it is the same
slot counted from either head. -/
theorem dequeue_enqueue_comm (w : Report) (h : s.QueueShape c) (hn : 0 < s.qCount) (hroom : s.qCount < c.queueCap) :
    dequeue c (enqueue c w s) = enqueue c w (dequeue c s) := by
  have hne : enqSlot c s ≠ s.qHead := fun e => by
    have hzero : (s.qHead + s.qCount) % c.queueCap = (s.qHead + 0) % c.queueCap := by
      rw [Nat.add_zero, Nat.mod_eq_of_lt h.head_lt]
      exact e
    exact hn.ne' (add_mod_inj hroom (hn.trans hroom) hzero)
  have hread : (s.withSlot (enqSlot c s) w).slot s.qHead = s.slot s.qHead := by
    rw [slot_withSlot _ _ _ (h.mem_length ▸ h.head_lt), if_neg hne]
  have hwrite : enqSlot c (dequeue c s) = enqSlot c s := by
    rw [dequeue_some hn, enqSlot, enqSlot, withWindow_qHead, withWindow_qCount, Nat.mod_add_mod, Nat.add_assoc,
      Nat.add_sub_cancel' hn]
  have hroom' : (dequeue c s).qCount < c.queueCap := by
    rw [dequeue_qCount]
    omega
  calc dequeue c (enqueue c w s)
      = ((s.withSlot (enqSlot c s) w).withPopData ((s.withSlot (enqSlot c s) w).slot s.qHead)).withWindow
          ((s.qHead + 1) % c.queueCap) s.qCount := by
        rw [enqueue_room w hroom, dequeue_some (Nat.succ_pos _)]
        rfl
    _ = ((dequeue c s).withSlot (enqSlot c s) w).withWindow ((s.qHead + 1) % c.queueCap) (s.qCount - 1 + 1) := by
        rw [hread, dequeue_some hn, Nat.sub_add_cancel hn]
        rfl
    _ = enqueue c w (dequeue c s) := by
        rw [enqueue_room w hroom', hwrite, dequeue_some hn]
        rfl

/-- Away from the boundaries a drain and a pop end in the same state in either order (R257). -/
theorem dequeue_drainRelay_comm (h : s.QueueShape c) (hr : s.relayFull = true) (hn : 0 < s.qCount)
    (hroom : s.qCount < c.queueCap) : dequeue c (drainRelay c s) = drainRelay c (dequeue c s) := by
  have hdata : (dequeue c s).relayData = s.relayData := (dequeue_keepsScannerState c s).relayData
  rw [drainRelay_of_full c hr, drainRelay_of_full c ((dequeue_relayFull c s).trans hr), hdata, ← dequeue_relayTaken,
    dequeue_enqueue_comm _ (relayTaken_keeps_shape h) hn hroom]

/-- What a drain and then a pop return and leave. -/
theorem drain_then_pop (h : s.QueueShape c) :
    (dequeue c (drainRelay c s)).popData = (liveEntries c (drainRelay c s)).headD 0x00000000#32 ∧
      liveEntries c (dequeue c (drainRelay c s)) = (liveEntries c (drainRelay c s)).tail :=
  ⟨dequeue_popData (drainRelay_keeps_shape h), liveEntries_dequeue (drainRelay_keeps_shape h)⟩

/-- What a pop and then a drain return and leave: after a pop there is room for the relay word. -/
theorem pop_then_drain (h : s.QueueShape c) (hr : s.relayFull = true) :
    (drainRelay c (dequeue c s)).popData = (liveEntries c s).headD 0x00000000#32 ∧
      liveEntries c (drainRelay c (dequeue c s)) = (liveEntries c s).tail ++ [s.relayData] := by
  have hroom : (dequeue c s).qCount < c.queueCap := by
    have hcap := h.head_lt
    have hle := h.count_le
    rw [dequeue_qCount]
    omega
  refine ⟨by rw [drainRelay_popData, dequeue_popData h], ?_⟩
  rw [liveEntries_drainRelay (dequeue_keeps_shape h) ((dequeue_relayFull c s).trans hr), if_pos hroom,
    liveEntries_dequeue h, (dequeue_keepsScannerState c s).relayData]

end Sys2Proof.Machine
end

/-! ## The obligations on the step and its failures -/

section

namespace Sys2Proof.Machine

open Sys2Proof

/-- Settles O13: a drain, the retry it enables, and the drain of the held word, after which nothing is enabled. -/
theorem stalledPushCompletesWithinThreeSteps : Obligations.StalledPushCompletesWithinThreeSteps := by
  intro s hs hp hr
  obtain ⟨a, hsa, ka, har⟩ := step_drains hs hr
  have has : a.script = [] := ka.script.trans hs
  have hap : a.sphase = .stalled := ka.sphase.trans hp
  obtain ⟨d, hbd, kd, hdr⟩ := step_drains (s := (a.relayPut a.hold).resumed) has rfl
  have hdd : step d = .next d := step_of_no_internalStep (kd.script.trans has) (internalStep_none kd.sphase hdr)
  exact ⟨a, _, d, hsa, step_retries has hap har, hbd, hdd, har, hap, rfl, rfl, ka.hold, kd.sphase, hdr⟩

/-- Settles O52: what each order returns and leaves (`drain_then_pop`, `pop_then_drain`), read at a full and at an empty
queue, and that the orders commute in between (`dequeue_drainRelay_comm`). -/
theorem drainAndPopDifferOnlyAtTheBoundaries : Obligations.DrainAndPopDifferOnlyAtTheBoundaries := by
  intro s h hr
  have hdrained := liveEntries_drainRelay h hr
  obtain ⟨hbPop, hbLive⟩ := drain_then_pop h
  obtain ⟨hePop, heLive⟩ := pop_then_drain h hr
  refine ⟨_, _, _, _, exec_eq_execAt .drain s, exec_eq_execAt .pop _, exec_eq_execAt .pop s, exec_eq_execAt .drain _,
    fun hfull => ?_, fun hempty => ?_, fun hn hroom => dequeue_drainRelay_comm h hr hn hroom⟩
  · have hnone : ¬ s.qCount < blockConfig.queueCap := hfull.not_lt
    rw [if_neg hnone] at hdrained
    rw [hdrained] at hbPop hbLive
    exact ⟨hbPop, hePop.trans hbPop.symm, hbLive, heLive⟩
  · have hroom : s.qCount < blockConfig.queueCap := hempty ▸ Nat.succ_pos 7
    rw [if_pos hroom, liveEntries_eq_nil hempty] at hdrained
    rw [hdrained] at hbPop hbLive
    rw [liveEntries_eq_nil hempty] at hePop heLive
    exact ⟨hbPop, hePop, hbLive, heLive⟩

/-- Settles O10. -/
theorem stepRunsTheDecodedLine : Obligations.StepRunsTheDecodedLine :=
  fun _ _ _ _ hs hi => step_of_line hs hi

/-- Settles O11: the three conditions decide the internal step. -/
theorem stepWithNoLineTakesTheInternalStep : Obligations.StepWithNoLineTakesTheInternalStep :=
  fun _ hs =>
    ⟨fun hp hr => step_of_internalStep hs (internalStep_retry rfl hp hr),
      fun hr => step_of_internalStep hs (internalStep_drain rfl hr),
      fun hp hr => step_of_no_internalStep hs (internalStep_none hp hr)⟩

/-- Settles O12: an operation of the machine completes with the state `execAt` gives (`exec_eq_execAt`). -/
theorem everyOperationCompletes : Obligations.EveryOperationCompletes :=
  ⟨fun i s => ⟨execAt blockConfig i s, exec_eq_execAt i s⟩, ⟨nofun⟩⟩

end Sys2Proof.Machine
end

/-! ## States that agree -/

section
/-! `Agree` is kept by each update of the state, so by each operation and by a step: nothing reads `hold` while `IDLE`,
`relay_data` behind an empty relay, or a queue slot outside the live window (`10_state.md` R38, R41, R42;
`70_reset_and_hazards.md` R280). -/

namespace Sys2Proof.Machine

open Sys2Proof

variable {c : Config} {s t : State}

/-! ### The updates -/

theorem withAcc_keeps_agree (a : BitVec 8) (h : Agree c s t) : Agree c (s.withAcc a) (t.withAcc a) :=
  { h with acc := rfl }

theorem withRegs_keeps_agree (a : BitVec 8) (v : ShiftState) (b : Bool) (p : Pending) (h : Agree c s t) :
    Agree c (s.withRegs a v b p) (t.withRegs a v b p) :=
  { h with acc := rfl, shift := rfl, shiftEvt := rfl, pending := rfl }

theorem withPending_keeps_agree (p : Pending) (h : Agree c s t) : Agree c (s.withPending p) (t.withPending p) :=
  { h with pending := rfl }

theorem withScript_keeps_agree (lines : List Line) (h : Agree c s t) :
    Agree c (s.withScript lines) (t.withScript lines) :=
  { h with script := rfl }

theorem withPopData_keeps_agree (w : Report) (h : Agree c s t) : Agree c (s.withPopData w) (t.withPopData w) :=
  { h with popData := rfl }

/-- A stall writes `hold`, so the words held before need not agree. -/
theorem stalledWith_keeps_agree (w : Report) (h : Agree c s t) : Agree c (s.stalledWith w) (t.stalledWith w) :=
  { h with sphase := rfl, hold := fun _ => rfl }

theorem resumed_keeps_agree (h : Agree c s t) : Agree c s.resumed t.resumed :=
  { h with sphase := rfl, hold := nofun }

/-- A put writes the relay's word, so the words in the relay before need not agree. -/
theorem relayPut_keeps_agree (w : Report) (h : Agree c s t) : Agree c (s.relayPut w) (t.relayPut w) :=
  { h with relayFull := rfl, relayData := fun _ => rfl }

theorem relayTaken_keeps_agree (h : Agree c s t) : Agree c s.relayTaken t.relayTaken :=
  { h with relayFull := rfl, relayData := nofun }

/-! ### The Scanner's operations -/

theorem pushReport_keeps_agree (hc : c.relayCap = 1) (w : Report) (h : Agree c s t) :
    Agree c (pushReport c w s) (pushReport c w t) := by
  cases hr : s.relayFull with
  | false =>
    rw [pushReport_empty w hc hr, pushReport_empty w hc (h.relayFull ▸ hr)]
    exact relayPut_keeps_agree w h
  | true =>
    rw [pushReport_full w hc hr, pushReport_full w hc (h.relayFull ▸ hr)]
    exact stalledWith_keeps_agree w h

theorem offer_keeps_agree (hc : c.relayCap = 1) (o : Option Report) (h : Agree c s t) :
    Agree c (offer c o s) (offer c o t) := by
  cases o with
  | none => exact h
  | some w => exact pushReport_keeps_agree hc w h

theorem composeCycle_keeps_agree (hc : c.relayCap = 1) (cls : CodeClass) (h : Agree c s t) :
    Agree c (composeCycle c cls s) (composeCycle c cls t) := by
  rw [composeCycle_eq_offer, composeCycle_eq_offer, h.pending]
  exact offer_keeps_agree hc _ (withPending_keeps_agree _ h)

/-- The decode cycle of the same decoder results; that the results are the same follows from the flags. -/
theorem afterDecode_keeps_agree (hc : c.relayCap = 1) {r r' : Decoded} (hr : r = r') (h : Agree c s t) :
    Agree c (afterDecode c r s) (afterDecode c r' t) := by
  subst hr
  rw [afterDecode_eq_offer, afterDecode_eq_offer, h.acc, h.shiftEvt, h.pending]
  exact offer_keeps_agree hc _ (withRegs_keeps_agree _ _ _ _ h)

theorem scanTick_keeps_agree (hc : c.relayCap = 1) (swN : BitVec 8) (h : Agree c s t) :
    Agree c (scanTick c swN s) (scanTick c swN t) := by
  rw [scanTick, scanTick, ← h.sphase, ← h.acc]
  split_ifs
  · exact h
  · exact withAcc_keeps_agree _ h
  · exact afterDecode_keeps_agree hc (congrArg _ h.shift) (withAcc_keeps_agree _ h)
  · exact h

/-- A retry reads `hold` only while the Scanner is stalled. -/
theorem retry_keeps_agree (hc : c.relayCap = 1) (h : Agree c s t) : Agree c (retry c s) (retry c t) := by
  rcases retry_cases hc s with ⟨hp, hr, e⟩ | ⟨hno, e⟩ <;> rw [e]
  · rw [retry_of_enabled hc (h.sphase ▸ hp) (h.relayFull ▸ hr), h.hold hp]
    exact resumed_keeps_agree (relayPut_keeps_agree _ h)
  · rcases retry_cases hc t with ⟨hp, hr, -⟩ | ⟨-, e'⟩
    · exact absurd ⟨h.sphase.trans hp, h.relayFull.trans hr⟩ hno
    · rwa [e']

/-! ### The Reporter's operations and the reset -/

/-- An enqueue makes its slot live by writing it. -/
theorem enqueue_keeps_agree (w : Report) (hs : s.QueueShape c) (ht : t.QueueShape c) (h : Agree c s t) :
    Agree c (enqueue c w s) (enqueue c w t) := by
  have hlive : liveEntries c (enqueue c w s) = liveEntries c (enqueue c w t) := by
    rw [liveEntries_enqueue w hs, liveEntries_enqueue w ht, h.live]
  by_cases hn : s.qCount < c.queueCap
  · rw [enqueue_room w hn, enqueue_room w (h.qCount ▸ hn)] at hlive ⊢
    exact { h with qCount := congrArg (· + 1) h.qCount, live := hlive }
  · rwa [enqueue_full w hn, enqueue_full w (h.qCount ▸ hn)]

/-- A drain reads the relay's word only from a full relay. -/
theorem drainRelay_keeps_agree (hs : s.QueueShape c) (ht : t.QueueShape c) (h : Agree c s t) :
    Agree c (drainRelay c s) (drainRelay c t) := by
  cases hr : s.relayFull with
  | false => rwa [drainRelay_of_empty c hr, drainRelay_of_empty c (h.relayFull ▸ hr)]
  | true =>
    rw [drainRelay_of_full c hr, drainRelay_of_full c (h.relayFull ▸ hr), h.relayData hr]
    exact enqueue_keeps_agree _ (relayTaken_keeps_shape hs) (relayTaken_keeps_shape ht) (relayTaken_keeps_agree h)

/-- A pop reads the slot at the head only from a queue that holds something. -/
theorem dequeue_keeps_agree (hs : s.QueueShape c) (ht : t.QueueShape c) (h : Agree c s t) :
    Agree c (dequeue c s) (dequeue c t) := by
  have hlive : liveEntries c (dequeue c s) = liveEntries c (dequeue c t) := by
    rw [liveEntries_dequeue hs, liveEntries_dequeue ht, h.live]
  have hpop : (dequeue c s).popData = (dequeue c t).popData := by
    rw [dequeue_popData hs, dequeue_popData ht, h.live]
  by_cases hn : 0 < s.qCount
  · rw [dequeue_some hn, dequeue_some (h.qCount ▸ hn)] at hlive hpop ⊢
    exact { h with
      qHead := congrArg (fun k => (k + 1) % c.queueCap) h.qHead
      qCount := congrArg (· - 1) h.qCount
      live := hlive
      popData := hpop }
  · have hzero : s.qCount = 0 := by omega
    rw [dequeue_empty hzero, dequeue_empty (h.qCount ▸ hzero)]
    exact withPopData_keeps_agree _ h

/-- A reset writes every element that can be read; the free values it leaves stand only in unspecified words (R280). -/
theorem resetBlock_agree (hscript : s.script = t.script) : Agree c (resetBlock c s) (resetBlock c t) :=
  ⟨rfl, rfl, rfl, rfl, rfl, nofun, rfl, nofun, rfl, rfl, rfl, rfl, hscript⟩

/-! ### Every operation, and a step -/

/-- Every operation takes states that agree to states that agree. -/
theorem execAt_keeps_agree (hc : c.relayCap = 1) (i : Instr) (hs : s.QueueShape c) (ht : t.QueueShape c)
    (h : Agree c s t) : Agree c (execAt c i s) (execAt c i t) := by
  cases i with
  | scanTick swN => exact scanTick_keeps_agree hc swN h
  | decChar _ | decThumb _ | decNum _ | decCapsToggle | decCommand _ | decNumlockToggle | decPanicClear | decEshiftSet
  | decCountermand _ | decNop _ => exact afterDecode_keeps_agree hc (congrArg _ h.shift) h
  | compNone | compUnmapped _ => exact composeCycle_keeps_agree hc noKeyClass h
  | compCtrlStart => exact composeCycle_keeps_agree hc (.start .ctrl) h
  | compAltStart => exact composeCycle_keeps_agree hc (.start .alt) h
  | compAltctrlStart => exact composeCycle_keeps_agree hc (.start .altctrl) h
  | compGuiStart => exact composeCycle_keeps_agree hc (.start .gui) h
  | compGuiKey | compCtrlkey _ | compPrintable _ | compExt1 | compExt2 => exact composeCycle_keeps_agree hc _ h
  | push w => exact pushReport_keeps_agree hc w h
  | retryPush => exact retry_keeps_agree hc h
  | drain => exact drainRelay_keeps_agree hs ht h
  | pop => exact dequeue_keeps_agree hs ht h
  | reset => exact resetBlock_agree h.script

/-- Both outcomes are next states that agree, or both are the same refusal. -/
def OutcomesAgree (c : Config) (x y : Host.Outcome State Fault Refusal) : Prop :=
  (∃ s' t', x = .next s' ∧ y = .next t' ∧ Agree c s' t') ∨ ∃ r, x = .refused r ∧ y = .refused r

theorem exec_outcomesAgree (i : Instr) (hs : s.QueueShape blockConfig) (ht : t.QueueShape blockConfig)
    (h : Agree blockConfig s t) : OutcomesAgree blockConfig (exec i s) (exec i t) :=
  .inl ⟨_, _, exec_eq_execAt i s, exec_eq_execAt i t, execAt_keeps_agree rfl i hs ht h⟩

theorem withScript_keeps_shape (lines : List Line) (h : s.QueueShape c) : (s.withScript lines).QueueShape c :=
  ⟨h.mem_length, h.head_lt, h.count_le⟩

/-- Which internal step is enabled depends on the phase and on whether the relay is full (R222, R223). -/
theorem internalStep_congr (hc : c.relayCap = 1) (hp : s.sphase = t.sphase) (hr : s.relayFull = t.relayFull) :
    internalStep c s = internalStep c t := by
  have hretry : retryEnabled c s = retryEnabled c t := by
    rw [retryEnabled, retryEnabled, relayRoom_eq hc, relayRoom_eq hc, hp, hr]
  rw [internalStep, internalStep, hretry, drainEnabled, drainEnabled, hr]

/-- A line that is no encoding is refused by name. -/
theorem step_of_undecodable {l : Line} {rest : List Line} {e : DecodeError} (hs : s.script = l :: rest)
    (he : decodeLine blockConfig l = .error e) : step s = .refused (.undecodable e) := by
  have hline : nextLine s = some (l, s.withScript rest) := nextLine_eq_some_iff.mpr ⟨rest, hs, rfl⟩
  simp only [step, hline, he]

/-- States that agree choose the same operation, or are refused at the same line. -/
theorem step_outcomesAgree (hs : s.QueueShape blockConfig) (ht : t.QueueShape blockConfig) (h : Agree blockConfig s t) :
    OutcomesAgree blockConfig (step s) (step t) := by
  cases hscript : s.script with
  | nil =>
    have hscript' : t.script = [] := h.script ▸ hscript
    have hinternal := internalStep_congr (c := blockConfig) rfl h.sphase h.relayFull
    cases hi : internalStep blockConfig s with
    | none =>
      rw [step_of_no_internalStep hscript hi, step_of_no_internalStep hscript' (hinternal ▸ hi)]
      exact .inl ⟨s, t, rfl, rfl, h⟩
    | some i =>
      rw [step_of_internalStep hscript hi, step_of_internalStep hscript' (hinternal ▸ hi)]
      exact exec_outcomesAgree i hs ht h
  | cons line rest =>
    have hscript' : t.script = line :: rest := h.script ▸ hscript
    cases hd : decodeLine blockConfig line with
    | error e => exact .inr ⟨_, step_of_undecodable hscript hd, step_of_undecodable hscript' hd⟩
    | ok i =>
      rw [step_of_line hscript hd, step_of_line hscript' hd]
      exact exec_outcomesAgree i (withScript_keeps_shape rest hs) (withScript_keeps_shape rest ht)
        (withScript_keeps_agree rest h)

end Sys2Proof.Machine
end

/-! ## The obligations on reset and on the unspecified words -/

section

namespace Sys2Proof.Machine

open Sys2Proof

/-- Settles O60: agreement is kept by every operation, and decides which one a step runs (`step_outcomesAgree`). -/
theorem unspecifiedWordsAreUnobservable : Obligations.UnspecifiedWordsAreUnobservable := by
  intro s t hs ht h
  rcases step_outcomesAgree hs ht h with ⟨s', t', hs', ht', h'⟩ | hrefused
  · exact .inl ⟨s', t', hs', ht', h', h'.popData, h'.shiftEvt⟩
  · exact .inr hrefused

/-- Settles O56: `resetBlock` writes each value; its queue has the shape of the configuration, eight slots. -/
theorem resetPutsEveryElementAtItsValue : Obligations.ResetPutsEveryElementAtItsValue := fun _ =>
  ⟨_, exec_eq_execAt .reset _, rfl, rfl, rfl, rfl, rfl, rfl, rfl, rfl, rfl,
    (resetBlock_has_shape blockConfig_wf.queue_nonempty).mem_length, rfl⟩

/-- Settles O57: the values `State.resetAt` names, and the shape of its queue. -/
theorem powerOnStateIsTheResetState : Obligations.PowerOnStateIsTheResetState :=
  ⟨rfl, rfl, rfl, rfl, rfl, rfl, rfl, rfl, rfl, reset_has_shape.mem_length⟩

end Sys2Proof.Machine
end
